-- ==== Sys2Proof/Word.lean ====
section
/-! DEFINITION. The word types of the core: 32-bit registers and bytes (spec/00_scope.md R6, R7). -/

namespace Sys2Proof

/-- A 32-bit register, bus word or command word (R6: `XLEN` = 32). -/
abbrev Word := BitVec 32

/-- One byte: a DBUF byte, a command field, a field element candidate (R7, R91). -/
abbrev Byte := BitVec 8

end Sys2Proof
end

