-- ==== Sys2Proof/Syntax.lean ====
section
/-! DEFINITION. The commands of the core: one constructor for each row of spec/opcode_table.json
(spec/30_encoding.md R91, R93, R97). -/

namespace Sys2Proof

/-- The values of the SEL field of BVSETBITS and BVGETBITS (R97). -/
inductive Selector
  | ident | north | east | south | west | user | reserved6 | reserved7
  deriving DecidableEq, Repr

/-- A command with its operands, in the field order F2, F1, F0 of R99. -/
inductive Instr
  /-- NOP (R124). -/
  | nop
  /-- BVCFG nbits (R135). -/
  | bvcfg (nbits : Byte)
  /-- BVSETBIT v, index (R136). -/
  | bvsetbit (v : Bool) (index : Byte)
  /-- BVGETBIT index (R137). -/
  | bvgetbit (index : Byte)
  /-- BVSETBITS sel, count (R138). -/
  | bvsetbits (sel : Selector) (count : Byte)
  /-- BVGETBITS sel, count (R139). -/
  | bvgetbits (sel : Selector) (count : Byte)
  /-- BVSETBYTES count, src (R140). -/
  | bvsetbytes (count src : Byte)
  /-- BVGETBYTES count, dst (R141). -/
  | bvgetbytes (count dst : Byte)
  /-- CRC16 len, src (R163). -/
  | crc16 (len src : Byte)
  /-- CRC16W len, dst, src (R164). -/
  | crc16w (len dst src : Byte)
  /-- GFMUL m, a, b (R176). -/
  | gfmul (m : BitVec 4) (a b : Byte)
  /-- GFDIV m, a, b (R177). -/
  | gfdiv (m : BitVec 4) (a b : Byte)
  /-- GFEXP m, e (R178). -/
  | gfexp (m : BitVec 4) (e : Byte)
  /-- GFLOG m, x (R179). -/
  | gflog (m : BitVec 4) (x : Byte)
  /-- RSCFG m, k, r (R191). -/
  | rscfg (m k r : Byte)
  /-- RSENC dst, src (R197). -/
  | rsenc (dst src : Byte)
  /-- RSCOR addr (R206). -/
  | rscor (addr : Byte)
  deriving DecidableEq, Repr

end Sys2Proof
end

