-- ==== Sys2Proof/WellFormed.lean ====
section
/-! DEFINITION. Which commands are legal as encoded. The field widths are in the types of Instr; the one condition
that a word can break and still name a command is the SEL test (spec/30_encoding.md R94, R97). -/

namespace Sys2Proof

/-- SEL 6 and 7 are reserved (R97). -/
def Selector.isReserved : Selector → Bool
  | .reserved6 | .reserved7 => true
  | .ident | .north | .east | .south | .west | .user => false

/-- A command that is not ILLEGAL whatever the state (R94: the SEL test is the one check outside the masks). -/
def Instr.wellFormed : Instr → Bool
  | .bvsetbits sel _ => !sel.isReserved
  | .bvgetbits sel _ => !sel.isReserved
  | .nop => true
  | .bvcfg _ => true
  | .bvsetbit _ _ => true
  | .bvgetbit _ => true
  | .bvsetbytes _ _ => true
  | .bvgetbytes _ _ => true
  | .crc16 _ _ => true
  | .crc16w _ _ _ => true
  | .gfmul _ _ _ => true
  | .gfdiv _ _ _ => true
  | .gfexp _ _ => true
  | .gflog _ _ => true
  | .rscfg _ _ _ => true
  | .rsenc _ _ => true
  | .rscor _ => true

end Sys2Proof
end

