-- ==== Sys2Proof/Decode.lean ====
section
/-! DEFINITION. The command word: fields, decoder and encoder (spec/30_encoding.md R90 to R98). -/

namespace Sys2Proof

/-- OPC, bits 31:27 (R90). -/
def opcOf (w : Word) : BitVec 5 := w.extractLsb' 27 5

/-- SEL, bits 26:24 (R90). -/
def selOf (w : Word) : BitVec 3 := w.extractLsb' 24 3

/-- F2, bits 23:16 (R90). -/
def f2Of (w : Word) : Byte := w.extractLsb' 16 8

/-- F1, bits 15:8 (R90). -/
def f1Of (w : Word) : Byte := w.extractLsb' 8 8

/-- F0, bits 7:0 (R90). -/
def f0Of (w : Word) : Byte := w.extractLsb' 0 8

/-- `OPC<<27 | SEL<<24 | F2<<16 | F1<<8 | F0` (R93). -/
def mkWord (opc : BitVec 5) (sel : BitVec 3) (f2 f1 f0 : Byte) : Word :=
  opc ++ sel ++ f2 ++ f1 ++ f0

/-- The selector named by a SEL value (R97). -/
def decodeSelector (sel : BitVec 3) : Selector :=
  match sel.toNat with
  | 0 => .ident
  | 1 => .north
  | 2 => .east
  | 3 => .south
  | 4 => .west
  | 5 => .user
  | 6 => .reserved6
  | _ => .reserved7

/-- The SEL value of a selector (R97). -/
def encodeSelector : Selector → BitVec 3
  | .ident => 0
  | .north => 1
  | .east => 2
  | .south => 3
  | .west => 4
  | .user => 5
  | .reserved6 => 6
  | .reserved7 => 7

/-- Why a word names no command. -/
inductive DecodeError
  /-- A reserved OPC value (R95). -/
  | reservedOpcode (opc : BitVec 5)
  /-- A defined opcode with a field that must be zero and is not (R96). -/
  | reservedField (opc : BitVec 5)
  deriving DecidableEq, Repr

/-- `i` if the fields that must be zero are, and the refusal of R96 otherwise. -/
def fieldsZero (w : Word) (zero : Bool) (i : Instr) : Except DecodeError Instr :=
  if zero then .ok i else .error (.reservedField (opcOf w))

/-- The command a word names (R93, R94), or why it names none (R95, R96). SEL 6 and 7 name a command here and are
refused by its meaning, as R94 and R97 have it. -/
def decode (w : Word) : Except DecodeError Instr :=
  let sel := selOf w
  let f2 := f2Of w
  let f1 := f1Of w
  let f0 := f0Of w
  match (opcOf w).toNat with
  | 0x00 => fieldsZero w (sel == 0 && f2 == 0 && f1 == 0 && f0 == 0) .nop
  | 0x01 => fieldsZero w (sel == 0 && f1 == 0 && f0 == 0) (.bvcfg f2)
  | 0x02 => fieldsZero w (sel == 0 && f2 == 0 && f1.extractLsb' 1 7 == 0) (.bvsetbit (f1.getLsbD 0) f0)
  | 0x03 => fieldsZero w (sel == 0 && f2 == 0 && f1 == 0) (.bvgetbit f0)
  | 0x04 => fieldsZero w (f1 == 0 && f0 == 0) (.bvsetbits (decodeSelector sel) f2)
  | 0x05 => fieldsZero w (f1 == 0 && f0 == 0) (.bvgetbits (decodeSelector sel) f2)
  | 0x06 => fieldsZero w (sel == 0 && f1 == 0) (.bvsetbytes f2 f0)
  | 0x07 => fieldsZero w (sel == 0 && f0 == 0) (.bvgetbytes f2 f1)
  | 0x08 => fieldsZero w (sel == 0 && f1 == 0) (.crc16 f2 f0)
  | 0x09 => fieldsZero w (sel == 0) (.crc16w f2 f1 f0)
  | 0x0C => fieldsZero w (sel == 0 && f2.extractLsb' 4 4 == 0) (.gfmul (f2.extractLsb' 0 4) f1 f0)
  | 0x0D => fieldsZero w (sel == 0 && f2.extractLsb' 4 4 == 0) (.gfdiv (f2.extractLsb' 0 4) f1 f0)
  | 0x0E => fieldsZero w (sel == 0 && f2.extractLsb' 4 4 == 0 && f0 == 0) (.gfexp (f2.extractLsb' 0 4) f1)
  | 0x0F => fieldsZero w (sel == 0 && f2.extractLsb' 4 4 == 0 && f1 == 0) (.gflog (f2.extractLsb' 0 4) f0)
  | 0x10 => fieldsZero w (sel == 0) (.rscfg f2 f1 f0)
  | 0x11 => fieldsZero w (sel == 0 && f2 == 0) (.rsenc f1 f0)
  | 0x12 => fieldsZero w (sel == 0 && f2 == 0 && f1 == 0) (.rscor f0)
  | _ => .error (.reservedOpcode (opcOf w))

/-- The word of a command (R93). -/
def encode : Instr → Word
  | .nop => mkWord 0x00 0 0 0 0
  | .bvcfg nbits => mkWord 0x01 0 nbits 0 0
  | .bvsetbit v index => mkWord 0x02 0 0 (if v then 1 else 0) index
  | .bvgetbit index => mkWord 0x03 0 0 0 index
  | .bvsetbits sel count => mkWord 0x04 (encodeSelector sel) count 0 0
  | .bvgetbits sel count => mkWord 0x05 (encodeSelector sel) count 0 0
  | .bvsetbytes count src => mkWord 0x06 0 count 0 src
  | .bvgetbytes count dst => mkWord 0x07 0 count dst 0
  | .crc16 len src => mkWord 0x08 0 len 0 src
  | .crc16w len dst src => mkWord 0x09 0 len dst src
  | .gfmul m a b => mkWord 0x0C 0 (m.setWidth 8) a b
  | .gfdiv m a b => mkWord 0x0D 0 (m.setWidth 8) a b
  | .gfexp m e => mkWord 0x0E 0 (m.setWidth 8) e 0
  | .gflog m x => mkWord 0x0F 0 (m.setWidth 8) 0 x
  | .rscfg m k r => mkWord 0x10 0 m k r
  | .rsenc dst src => mkWord 0x11 0 0 dst src
  | .rscor addr => mkWord 0x12 0 0 0 addr

/-- The row of spec/opcode_table.json of a command: its mask and its match (R94). -/
def Instr.row : Instr → Word × Word
  | .nop => (0xFFFFFFFF#32, 0x00000000#32)
  | .bvcfg _ => (0xFF00FFFF#32, 0x08000000#32)
  | .bvsetbit _ _ => (0xFFFFFE00#32, 0x10000000#32)
  | .bvgetbit _ => (0xFFFFFF00#32, 0x18000000#32)
  | .bvsetbits _ _ => (0xF800FFFF#32, 0x20000000#32)
  | .bvgetbits _ _ => (0xF800FFFF#32, 0x28000000#32)
  | .bvsetbytes _ _ => (0xFF00FF00#32, 0x30000000#32)
  | .bvgetbytes _ _ => (0xFF0000FF#32, 0x38000000#32)
  | .crc16 _ _ => (0xFF00FF00#32, 0x40000000#32)
  | .crc16w _ _ _ => (0xFF000000#32, 0x48000000#32)
  | .gfmul _ _ _ => (0xFFF00000#32, 0x60000000#32)
  | .gfdiv _ _ _ => (0xFFF00000#32, 0x68000000#32)
  | .gfexp _ _ => (0xFFF000FF#32, 0x70000000#32)
  | .gflog _ _ => (0xFFF0FF00#32, 0x78000000#32)
  | .rscfg _ _ _ => (0xFF000000#32, 0x80000000#32)
  | .rsenc _ _ => (0xFFFF0000#32, 0x88000000#32)
  | .rscor _ => (0xFFFFFF00#32, 0x90000000#32)

/-- The word `w` of `nbits` bits as the one 32-bit value the host writes to CMD (R90): the bits above `nbits` are 0. -/
def tableWord (nbits w : Nat) : Word := BitVec.ofNat 32 (w % 2 ^ nbits)

/-- The command the decoder reads from a row's word of spec/opcode_table.json. -/
def decodeTableWord (nbits w : Nat) : Option Instr :=
  match decode (tableWord nbits w) with
  | .ok i => some i
  | .error _ => none

end Sys2Proof
end

