-- ==== Sys2Proof/Config.lean ====
section
/-! DEFINITION. Configuration, constant for a run (spec/00_scope.md R6, R15), and the free values: what the spec
leaves open stands here as a constant with no body, so that no proof can rest on a value of it. -/

namespace Sys2Proof

/-- The four fixed orientations, in the trial order of R97 and R231. -/
inductive Rotation
  | north | east | south | west
  deriving DecidableEq, Repr, Inhabited

namespace Config

/-- `ID_VALUE` (R6, R23). -/
def idValue : Word := 0x52544301#32

/-- The page number of `BASE`: the window's base address is a multiple of 4 KiB (R6, R68, U16). OPEN. That a platform
address has 32 bits, and so a page number 20, is the model's choice: the spec fixes the width of registers and data
path alone. DESIGN CHOICE (notes/assumptions/7.md). -/
opaque basePage : BitVec 20

/-- `BASE`, the platform address of offset 0 of the window (R6, R68). -/
def base : Word := basePage ++ 0#12

/-- The values the OPEN parameter `SUBWORD_RESPONSE` may have (R61, D2). -/
inductive SubwordResponse
  | busError | ignored
  deriving DecidableEq, Repr, Inhabited

/-- `SUBWORD_RESPONSE` (R61, U5). OPEN. -/
opaque subwordResponse : SubwordResponse

/-- `PERM` (R6, R38, U14): the four fixed mapping tables. OPEN; each row is a permutation of [0,64), which the type
says (the premise that R6 and R143 allow). -/
opaque perm : Rotation → Equiv.Perm (BitVec 6)

/-- `PRIM_POLY`, an argument of the model (R6, R171, D15, U15): the polynomial of each symbol size. -/
structure PrimPolys where
  /-- `PRIM_POLY[3]`. -/
  p3 : BitVec 9
  /-- `PRIM_POLY[4]`. -/
  p4 : BitVec 9
  /-- `PRIM_POLY[5]`. -/
  p5 : BitVec 9
  /-- `PRIM_POLY[6]`. -/
  p6 : BitVec 9
  /-- `PRIM_POLY[7]`. -/
  p7 : BitVec 9
  /-- `PRIM_POLY[8]`. -/
  p8 : BitVec 9
  deriving DecidableEq, Repr

/-- `PRIM_POLY[m]`; there is none outside m = 3..8. -/
def PrimPolys.poly (polys : PrimPolys) : Nat → BitVec 9
  | 3 => polys.p3
  | 4 => polys.p4
  | 5 => polys.p5
  | 6 => polys.p6
  | 7 => polys.p7
  | 8 => polys.p8
  | _ => 0#9

/-- The spec's default values of `PRIM_POLY` (R171, D15). -/
def defaultPolys : PrimPolys := { p3 := 0x00B, p4 := 0x013, p5 := 0x025, p6 := 0x043, p7 := 0x089, p8 := 0x11D }

/-- Free value (U1, R32, R41): what DBUF byte `a` holds after the power-on reset numbered `epoch`, until it is
written. -/
opaque powerOnByte (epoch a : Nat) : Byte

/-- Free value (U2, R33, R41): what MAPRAM entry `i` holds after the power-on reset numbered `epoch`, until it is
written. -/
opaque powerOnMapEntry (epoch i : Nat) : BitVec 6

/-- Free value (U3, R285): the word a host read of a command's result location returns while BUSY = 1; `n` is the
number of the draw. -/
opaque busyRead (n : Nat) : Word

/-- Free value (U4, R283): what DBUF byte `a` holds after the command that could write it was abandoned; `n` is the
number of the draw. -/
opaque abandonedByte (n a : Nat) : Byte

/-- Free value (U6, R122, R288): how many host accesses come between an accepted CMD write and the engine's step;
`n` is the number of the draw. -/
opaque completionDelay (n : Nat) : Nat

end Config

end Sys2Proof
end

