-- ==== Sys2Proof/Machine/State.lean ====
section
/-! DEFINITION. The state of the core as plain data (spec/10_state.md), the actions of the host and the platform, the
reasons a step can stop, and the state after power-on reset. -/

namespace Sys2Proof.Machine

/-- The error codes a failing command leaves in STATUS.ERRCODE (R251); code 0, NONE, is `none` of an
`Option CmdError`, and codes 7 to 15 are never produced (U9). -/
inductive CmdError
  | illegal | range | operand | zero | nocfg | cfg
  deriving DecidableEq, Repr

/-- The width of a host access; only `word` is supported (R61). -/
inductive AccessWidth
  | byte | half | word
  deriving DecidableEq, Repr

/-- What the host or the platform does next. An offset is the distance from `BASE` of the address accessed (R22), as
a 32-bit difference, so that it says every platform address of the width notes/assumptions/7.md chooses. -/
inductive HostAction
  /-- A host read (R61, `R off` of R101). -/
  | read (width : AccessWidth) (offset : Word)
  /-- A host write (R61, `W off, value` of R101). -/
  | write (width : AccessWidth) (offset data : Word)
  /-- The host's WAIT loop: read STATUS until BUSY = 0 (R101). -/
  | wait
  /-- The platform's reset input (R280). -/
  | powerOnReset
  deriving DecidableEq, Repr

/-- DBUF: the bytes written since power-on, by address (R32, R60). -/
abbrev Memory := List Host.Cell

/-- MAPRAM: the entries written since power-on, by index (R33, R60). -/
abbrev MapRam := List (Nat × BitVec 6)

/-- The state of the core (R22 to R41), then the model's own fields (notes/assumptions/1.md, 12.md). -/
structure State where
  /-- CTRL.IE (R24). -/
  ie : Bool
  /-- STATUS.BUSY (R25, R39). -/
  busy : Bool
  /-- STATUS.DONE (R25). -/
  done : Bool
  /-- STATUS.ERR (R25). -/
  err : Bool
  /-- STATUS.NOOP (R25). -/
  noop : Bool
  /-- STATUS.OVR (R25). -/
  ovr : Bool
  /-- STATUS.ERRCODE (R25, R251). -/
  errcode : Option CmdError
  /-- CMDL, the last accepted command word (R26, R39). -/
  cmdl : Word
  /-- ARG0 (R27). -/
  arg0 : Word
  /-- ARG1 (R27). -/
  arg1 : Word
  /-- RES0 (R28). -/
  res0 : Word
  /-- RES1 (R28). -/
  res1 : Word
  /-- RS_VALID (R29, R36). -/
  rsValid : Bool
  /-- RS_M (R29, R36). -/
  rsM : BitVec 4
  /-- RS_K (R29, R36). -/
  rsK : Byte
  /-- RS_R (R29, R36). -/
  rsR : Byte
  /-- BV_VALID (R30, R35). -/
  bvValid : Bool
  /-- BV_LEN (R30, R35). -/
  bvLen : BitVec 7
  /-- BV.byte[0..7], byte j at bits 8j+7..8j (R31, R35, R132). -/
  bv : BitVec 64
  /-- DBUF (R32). -/
  dbuf : Memory
  /-- MAPRAM (R33). -/
  mapram : MapRam
  /-- `PRIM_POLY`, configuration that no step changes (R15, R171; notes/assumptions/6.md). -/
  prim : Config.PrimPolys
  /-- The MODEL's: the number of the last power-on reset, which selects the draws of U1 and U2. -/
  epoch : Nat
  /-- The MODEL's: how many free values have been drawn. -/
  draws : Nat
  /-- The MODEL's: host accesses still to come before the engine's step (R288), while BUSY = 1. -/
  delay : Nat
  /-- The MODEL's: what the host and the platform will do, oldest first. -/
  inputs : List HostAction
  /-- The MODEL's: the word the last host read returned. -/
  hostData : Word
  deriving DecidableEq, Repr

/-- Why a run stops. -/
inductive Fault
  /-- Raised by the host's step for an access that is not an aligned 32-bit word (R61, U5), with the OPEN bus response.
  Safe: the spec says that a model must treat it as a fault of the host step. -/
  | unsupportedHostAccess (response : Config.SubwordResponse)
  deriving DecidableEq, Repr

/-- Why the model gives a step no meaning. -/
inductive Refusal
  /-- Raised by a command that has no meaning yet. Safe: the model stops. No arm of exec raises it. -/
  | notModelled (mnemonic : String)
  /-- Raised by the host's step for an access outside the window, which is the platform's (R68). Safe: the model
  stops. -/
  | outsideWindow
  deriving DecidableEq, Repr

/-- The outcome of one step. -/
abbrev Result := Host.Outcome State Fault Refusal

/-- The machine right after power-on reset (R41, R281): every register 0, no configuration valid, nothing written in
DBUF and MAPRAM. PRIM_POLY has its default values (R171). The model's own fields start at 0 and empty
(notes/assumptions/12.md). -/
def State.reset : State where
  ie := false
  busy := false
  done := false
  err := false
  noop := false
  ovr := false
  errcode := none
  cmdl := 0#32
  arg0 := 0#32
  arg1 := 0#32
  res0 := 0#32
  res1 := 0#32
  rsValid := false
  rsM := 0#4
  rsK := 0#8
  rsR := 0#8
  bvValid := false
  bvLen := 0#7
  bv := 0#64
  dbuf := []
  mapram := []
  prim := Config.defaultPolys
  epoch := 0
  draws := 0
  delay := 0
  inputs := []
  hostData := 0#32

/-- The machine right after power-on reset of a core built with other field polynomials (R6, R171). -/
def State.resetWith (polys : Config.PrimPolys) : State := { State.reset with prim := polys }

end Sys2Proof.Machine
end

