-- ==== Sys2Proof/Machine/Ops.lean ====
section
/-! DEFINITION. The named operations over memory and registers (spec/00_scope.md R8, R9; spec/20_memory.md), the issue
of a command and its end, by which a command also fails (spec/40_system.md R120, R122; spec/60_exceptions.md R250 to
R253): the core's one form of exception, which takes no trap and returns from none (R260, R261). -/

namespace Sys2Proof.Machine

/-! ### Sparse memories in canonical form -/

/-- What is written at `a`, if anything is. -/
def cellAt {w : Nat} : List (Nat × BitVec w) → Nat → Option (BitVec w)
  | [], _ => none
  | (b, v) :: m, a => if a = b then some v else cellAt m a

/-- The memory with `v` written at `a`. -/
def putCell {w : Nat} : List (Nat × BitVec w) → Nat → BitVec w → List (Nat × BitVec w)
  | [], a, v => [(a, v)]
  | (b, u) :: m, a, v =>
    if a < b then (a, v) :: (b, u) :: m
    else if a = b then (a, v) :: m
    else (b, u) :: putCell m a v

/-- The memory with the values of a list written from `a` upwards. -/
def putCells {w : Nat} : List (Nat × BitVec w) → Nat → List (BitVec w) → List (Nat × BitVec w)
  | m, _, [] => m
  | m, a, v :: vs => putCells (putCell m a v) (a + 1) vs

/-- Addresses rise strictly, from `lo` on and below `bound`. -/
def risingFrom {w : Nat} (bound : Nat) : Nat → List (Nat × BitVec w) → Bool
  | _, [] => true
  | lo, (a, _) :: m => decide (lo ≤ a) && decide (a < bound) && risingFrom bound (a + 1) m

/-- The canonical form of DBUF: strictly rising addresses, all of them in [0, 256) (R60). An unlisted address is a
byte nothing has written since power-on, which no listed entry is. -/
def Memory.wf (m : Memory) : Bool := risingFrom 256 0 m

/-- The canonical form of MAPRAM: strictly rising indices, all of them in [0, 64) (R60). -/
def MapRam.wf (m : MapRam) : Bool := risingFrom 64 0 m

/-- What an unlisted DBUF address reads as: the power-on contents, a free value (U1, R41). -/
def unwrittenByte (epoch a : Nat) : Byte := Config.powerOnByte epoch a

/-- What an unlisted MAPRAM index reads as: the power-on contents, a free value (U2, R41). -/
def unwrittenEntry (epoch i : Nat) : BitVec 6 := Config.powerOnMapEntry epoch i

/-- `DBUF[a]` (R8). -/
def State.dbufByte (s : State) (a : Nat) : Byte := (cellAt s.dbuf a).getD (unwrittenByte s.epoch a)

/-- `MAPRAM[i]` (R8). -/
def State.mapEntry (s : State) (i : Nat) : BitVec 6 := (cellAt s.mapram i).getD (unwrittenEntry s.epoch i)

/-- `MemRead(a, n)` (R8): the bytes at `a`, ..., `a + n - 1`. -/
def State.memRead (s : State) : Nat → Nat → List Byte
  | _, 0 => []
  | a, n + 1 => s.dbufByte a :: s.memRead (a + 1) n

/-- `MemWrite(a, n, L)` (R8), `n` the length of `L`. -/
def State.memWrite (s : State) (a : Nat) (bytes : List Byte) : State :=
  { s with dbuf := putCells s.dbuf a bytes }

/-- Entries `i`, `i + 1`, ... of MAPRAM take the values of a list (R64). -/
def State.mapWrite (s : State) (i : Nat) (entries : List (BitVec 6)) : State :=
  { s with mapram := putCells s.mapram i entries }

/-! ### Registers -/

/-- RES0 and RES1 take a command's result; every result-producing command writes both (R28). -/
def State.setResult (s : State) (r0 r1 : Word) : State := { s with res0 := r0, res1 := r1 }

/-- ARG0 takes a host write (R27). -/
def State.setArg0 (s : State) (data : Word) : State := { s with arg0 := data }

/-- ARG1 takes a host write (R27). -/
def State.setArg1 (s : State) (data : Word) : State := { s with arg1 := data }

/-- CTRL.IE takes a value (R24). -/
def State.setIe (s : State) (ie : Bool) : State := { s with ie := ie }

/-- The bit vector takes new contents. -/
def State.setBv (s : State) (v : BitVec 64) : State := { s with bv := v }

/-- The bit-vector configuration and contents after a BVCFG (R135). -/
def State.setBvConfig (s : State) (valid : Bool) (len : BitVec 7) : State :=
  { s with bv := 0#64, bvValid := valid, bvLen := len }

/-- The Reed-Solomon configuration after an RSCFG (R191). -/
def State.setRsConfig (s : State) (valid : Bool) (m : BitVec 4) (k r : Byte) : State :=
  { s with rsValid := valid, rsM := m, rsK := k, rsR := r }

/-- Byte `j` of the bit vector, `BV.byte[j]` (R8, R35). -/
def State.bvByte (s : State) (j : Nat) : Byte := s.bv.extractLsb' (8 * j) 8

/-- The value vector VIN, bit i for logical index i (R134). -/
def State.vin (s : State) : BitVec 64 := s.arg1 ++ s.arg0

/-- RES0 and RES1 take the 64-bit value VOUT (R134). -/
def State.setVout (s : State) (v : BitVec 64) : State :=
  s.setResult (v.extractLsb' 0 32) (v.extractLsb' 32 32)

/-! ### The model's own fields -/

/-- The word a host read returned. -/
def State.setHostData (s : State) (data : Word) : State := { s with hostData := data }

/-- A free value has been drawn. -/
def State.nextDraw (s : State) : State := { s with draws := s.draws + 1 }

/-- One host access has taken place: one fewer to come before the engine's step (R288). -/
def State.tick (s : State) : State := { s with delay := s.delay - 1 }

/-- The list of actions to come. -/
def State.setInputs (s : State) (inputs : List HostAction) : State := { s with inputs := inputs }

/-! ### The issue and the end of a command -/

/-- How a performed command ends (R250). -/
inductive CmdOutcome
  | ok | noop | fail (e : CmdError)
  deriving DecidableEq, Repr

/-- A command word is accepted (R120): it is latched, the flags of the command before are cleared, BUSY is set. The
number of host accesses before the engine's step is drawn (R288). -/
def State.acceptCommand (s : State) (w : Word) : State :=
  { s with
    cmdl := w
    done := false
    err := false
    noop := false
    errcode := none
    busy := true
    delay := Config.completionDelay s.draws
    draws := s.draws + 1 }

/-- A command word placed in CMDL as the command in flight, with the engine's step next. -/
def State.latchCommand (s : State) (w : Word) : State := { s with cmdl := w, busy := true, delay := 0 }

/-- The end of a command (R122, with R250 for the flags of each outcome): BUSY falls, DONE rises, and NOOP, ERR and
ERRCODE report the outcome. This is also how a command takes its exception: a failing command reports it in STATUS and
nowhere else (R252, R260). -/
def State.endCommand (s : State) (o : CmdOutcome) : State :=
  { s with
    busy := false
    done := true
    noop := match o with
      | .noop => true
      | .ok | .fail _ => false
    err := match o with
      | .fail _ => true
      | .ok | .noop => false
    errcode := match o with
      | .fail e => some e
      | .ok | .noop => none }

/-- The command ends normally in `s` (R250, `ok`). -/
def State.complete (s : State) : Result := .next (s.endCommand .ok)

/-- The command ends as a contract no-op (R253, `noop` of R9). -/
def State.completeNoop (s : State) : Result := .next (s.endCommand .noop)

/-- The command fails with error code `e` (R252, `fail E` of R9). -/
def State.failWith (s : State) (e : CmdError) : Result := .next (s.endCommand (.fail e))

end Sys2Proof.Machine
end

