-- ==== Sys2Proof/Machine/Flags.lean ====
section
/-! DEFINITION. The STATUS register as a word, its codes and the interrupt output (spec/10_state.md R24, R25, R40;
spec/60_exceptions.md R251, R258). -/

namespace Sys2Proof.Machine

/-- The numbers of the error codes (R251). -/
def CmdError.code : CmdError → BitVec 4
  | .illegal => 1
  | .range => 2
  | .operand => 3
  | .zero => 4
  | .nocfg => 5
  | .cfg => 6

/-- The value of STATUS.ERRCODE (R251). -/
def errcodeBits : Option CmdError → BitVec 4
  | none => 0
  | some e => e.code

/-- A flag as a one-bit field. -/
def flagBit (b : Bool) : BitVec 1 := BitVec.ofBool b

/-- STATUS as it is read (R25). -/
def State.statusWord (s : State) : Word :=
  (0#20 ++ errcodeBits s.errcode ++ 0#3 ++ flagBit s.ovr ++ flagBit s.noop ++ flagBit s.err ++ flagBit s.done
    ++ flagBit s.busy : BitVec 32)

/-- CTRL as it is read: IE in bit 0, SRST reads 0 (R24). -/
def State.ctrlWord (s : State) : Word := (0#31 ++ flagBit s.ie : BitVec 32)

/-- A host write to STATUS: DONE and OVR are cleared by writing 1, every other bit is read-only (R25). -/
def State.writeStatus (s : State) (data : Word) : State :=
  { s with
    done := s.done && !data.getLsbD 1
    ovr := s.ovr && !data.getLsbD 4 }

/-- A host write is dropped: STATUS.OVR rises (R121, R286). -/
def State.dropWrite (s : State) : State := { s with ovr := true }

/-- The completion interrupt (R258). -/
def State.irq (s : State) : Bool := s.ie && s.done

end Sys2Proof.Machine
end

