-- ==== Sys2Proof/Machine/Operands.lean ====
section
/-! DEFINITION. Operand forms and their checks: DBUF ranges, mappings, value vectors (spec/30_encoding.md R91, R92, R97;
spec/41_bitvector.md R131 to R134; spec/60_exceptions.md R255). -/

namespace Sys2Proof.Machine

/-- The range check of a DBUF operand, on integers and without wrap-around (R255). -/
def rangeOk (a : Byte) (n : Nat) : Bool := decide (a.toNat + n ≤ 256)

/-- BV_LEN as a count of bits (R35). -/
def State.bvBits (s : State) : Nat := s.bvLen.toNat

/-- BV_BYTES = BV_LEN / 8 (R130). -/
def State.bvBytes (s : State) : Nat := s.bvLen.toNat / 8

/-- A mapping a bulk command can go through (R97). -/
inductive Mapping
  | ident
  | fixed (d : Rotation)
  | user
  deriving DecidableEq, Repr

/-- The mapping a selector names; the two reserved values name none (R97). -/
def selectorMapping : Selector → Option Mapping
  | .ident => some .ident
  | .north => some (.fixed .north)
  | .east => some (.fixed .east)
  | .south => some (.fixed .south)
  | .west => some (.fixed .west)
  | .user => some .user
  | .reserved6 => none
  | .reserved7 => none

/-- `Map(sel, i)` for a logical index i in [0,64) (R133). -/
def State.mapIndex (s : State) (mp : Mapping) (i : Nat) : Nat :=
  match mp with
  | .ident => i
  | .fixed d => (Config.perm d (BitVec.ofNat 6 i)).toNat
  | .user => (s.mapEntry i).toNat

/-- Every one of the first `count` mapping entries is below BV_LEN (R138, R139). -/
def State.mapOk (s : State) (mp : Mapping) (count : Nat) : Bool :=
  (List.range count).all fun i => decide (s.mapIndex mp i < s.bvBits)

/-- The vector with bit `i` set to `b` (R132); the other bits are unchanged. -/
def setBit (v : BitVec 64) (i : Nat) (b : Bool) : BitVec 64 :=
  if b then v ||| BitVec.twoPow 64 i else v &&& ~~~ BitVec.twoPow 64 i

/-- The bit vector after `for i = 0, 1, ..., count-1: BV.setbit(Map(i), VIN(i))` from all zeros (R138). -/
def scatterBits (map : Nat → Nat) (vin : BitVec 64) : Nat → BitVec 64
  | 0 => 0#64
  | n + 1 => setBit (scatterBits map vin n) (map n) (vin.getLsbD n)

/-- The value after `for i in [0, count): v[i] <- BV.bit(Map(i))` from all zeros (R139). -/
def gatherBits (map : Nat → Nat) (bv : BitVec 64) : Nat → BitVec 64
  | 0 => 0#64
  | n + 1 => setBit (gatherBits map bv n) n (bv.getLsbD (map n))

/-- The vector whose bytes are those of a list, byte 0 first, and 0 beyond it (R140). -/
def packBytes : List Byte → BitVec 64
  | [] => 0#64
  | b :: bs => b.setWidth 64 ||| (packBytes bs <<< 8)

end Sys2Proof.Machine
end

