-- ==== Sys2Proof/Machine/Galois.lean ====
section
/-! DEFINITION. The Galois-field unit: the field tables, multiplication and division (spec/43_galois.md). An element of
GF(2^m), m at most 8, is held in a byte. -/

namespace Sys2Proof.Machine

/-- The symbol sizes of the unit, 3..8 (R6, R176). -/
def gfSizeOk (m : Nat) : Bool := decide (3 ≤ m ∧ m ≤ 8)

/-- A byte is an element of GF(2^m): no bit at or above m is set (R170). -/
def isElement (m : Nat) (v : Byte) : Bool := decide (v.toNat < 2 ^ m)

/-- A field: its symbol size m and its polynomial (R170, R171). -/
structure GField where
  /-- The symbol size. -/
  m : Nat
  /-- `PRIM_POLY[m]`, the coefficient of x^i at bit i. -/
  poly : BitVec 9
  deriving DecidableEq, Repr

/-- GF(2^m) under the core's `PRIM_POLY` (R171). -/
def State.field (s : State) (m : Nat) : GField := { m := m, poly := s.prim.poly m }

/-- The field of the Reed-Solomon configuration (R36, R191). -/
def State.rsField (s : State) : GField := s.field s.rsM.toNat

/-- `N = 2^m - 1` (R170). -/
def gfOrder (m : Nat) : Nat := 2 ^ m - 1

/-- The step of the table construction: `v << 1`, reduced by PRIM_POLY[m] if bit m is set (R172). -/
def gfTimesX (f : GField) (v : Byte) : Byte :=
  let w : BitVec 9 := v.setWidth 9 <<< 1
  (if w.getLsbD f.m then w ^^^ f.poly else w).setWidth 8

/-- `n` successive entries of the antilog table, from `v` on (R172). -/
def alphaFrom (f : GField) : Nat → Byte → List Byte
  | 0, _ => []
  | n + 1, v => v :: alphaFrom f n (gfTimesX f v)

/-- `alphaTo_m[0..N-1]` (R172). -/
def alphaTable (f : GField) : List Byte := alphaFrom f (gfOrder f.m) 1#8

/-- `alphaTo_m[i]`, i in [0, N) (R172). -/
def alphaTo (f : GField) (i : Nat) : Byte := (alphaTable f).getD i 0#8

/-- `α^e = alphaTo_m[e mod N]` (R172). -/
def alphaPow (f : GField) (e : Nat) : Byte := alphaTo f (e % gfOrder f.m)

/-- `indexOf_m[v]` for a non-zero element v (R173). -/
def indexOf (f : GField) (v : Byte) : Nat := (alphaTable f).idxOf v

/-- `a ⊗ b` (R174). -/
def gfMul (f : GField) (a b : Byte) : Byte :=
  if a = 0#8 ∨ b = 0#8 then 0#8 else alphaTo f ((indexOf f a + indexOf f b) % gfOrder f.m)

/-- `a ⊘ b` for b != 0 (R175): the exponent is the difference of the logs, taken mod N in [0, N). -/
def gfDiv (f : GField) (a b : Byte) : Byte :=
  if a = 0#8 then 0#8 else alphaTo f ((indexOf f a + (gfOrder f.m - indexOf f b)) % gfOrder f.m)

/-- GFMUL m, a, b (R176). -/
def execGfmul (m : BitVec 4) (a b : Byte) (s : State) : Result :=
  if !gfSizeOk m.toNat then s.failWith .operand
  else if !isElement m.toNat a || !isElement m.toNat b then s.failWith .operand
  else (s.setResult ((gfMul (s.field m.toNat) a b).setWidth 32) 0#32).complete

/-- GFDIV m, a, b (R177). -/
def execGfdiv (m : BitVec 4) (a b : Byte) (s : State) : Result :=
  if !gfSizeOk m.toNat then s.failWith .operand
  else if !isElement m.toNat a || !isElement m.toNat b then s.failWith .operand
  else if b = 0#8 then s.failWith .zero
  else (s.setResult ((gfDiv (s.field m.toNat) a b).setWidth 32) 0#32).complete

/-- GFEXP m, e (R178). -/
def execGfexp (m : BitVec 4) (e : Byte) (s : State) : Result :=
  if !gfSizeOk m.toNat then s.failWith .operand
  else (s.setResult ((alphaPow (s.field m.toNat) e.toNat).setWidth 32) 0#32).complete

/-- GFLOG m, x (R179). -/
def execGflog (m : BitVec 4) (x : Byte) (s : State) : Result :=
  if !gfSizeOk m.toNat then s.failWith .operand
  else if !isElement m.toNat x then s.failWith .operand
  else if x = 0#8 then s.failWith .zero
  else (s.setResult (BitVec.ofNat 32 (indexOf (s.field m.toNat) x)) 0#32).complete

end Sys2Proof.Machine
end

