-- ==== Sys2Proof/Machine/ReedSolomon.lean ====
section
/-! DEFINITION. The Reed-Solomon unit: polynomials over GF(2^m), the encoder, the decoder and their commands
(spec/44_reed_solomon.md). A polynomial is its coefficient list, that of x^0 first (spec/00_scope.md R10). -/

namespace Sys2Proof.Machine

/-! ### Polynomials -/

/-- The sum of two polynomials (R10). -/
def polyAdd : List Byte → List Byte → List Byte
  | [], q => q
  | p, [] => p
  | a :: p, b :: q => (a ^^^ b) :: polyAdd p q

/-- `c · P`. -/
def polyScale (f : GField) (c : Byte) (p : List Byte) : List Byte := p.map (gfMul f c)

/-- `x^k · P`. -/
def polyShift (k : Nat) (p : List Byte) : List Byte := List.replicate k 0#8 ++ p

/-- The product of two polynomials. -/
def polyMul (f : GField) : List Byte → List Byte → List Byte
  | [], _ => []
  | a :: p, q => polyAdd (polyScale f a q) (polyShift 1 (polyMul f p q))

/-- `P(v)`, by Horner's rule (R10). -/
def polyEval (f : GField) (p : List Byte) (v : Byte) : Byte := p.foldr (fun c acc => c ^^^ gfMul f acc v) 0#8

/-- The largest i with `P_i != 0`; 0 for the zero polynomial (R10). -/
def polyDeg : List Byte → Nat
  | [] => 0
  | _ :: p => if p.all (· == 0#8) then 0 else polyDeg p + 1

/-- The formal derivative in characteristic 2 (R204): the coefficient of x^j is `P_{j+1}` for even j, else 0. -/
def polyDeriv (p : List Byte) : List Byte :=
  (List.range (polyDeg p)).map fun j => if j % 2 = 0 then p.getD (j + 1) 0#8 else 0#8

/-! ### Encoding -/

/-- The generator polynomial `g(x) = (x ⊕ α^1) ... (x ⊕ α^r)` (R195). -/
def rsGenerator (f : GField) : Nat → List Byte
  | 0 => [1#8]
  | r + 1 => polyMul f (rsGenerator f r) [alphaPow f (r + 1), 1#8]

/-- One data symbol through the feedback shift register, `rem[i]` the coefficient of x^i (R196). -/
def lfsrStep (f : GField) (g rem : List Byte) (d : Byte) : List Byte :=
  let fb := d ^^^ rem.getLastD 0#8
  polyAdd (0#8 :: rem.dropLast) (polyScale f fb (g.take rem.length))

/-- The r parity symbols of a data block (R196): the register's contents, highest degree first. -/
def rsParity (f : GField) (r : Nat) (data : List Byte) : List Byte :=
  (data.foldl (lfsrStep f (rsGenerator f r)) (List.replicate r 0#8)).reverse

/-! ### Decoding -/

/-- `B(v)` by Horner's rule over `B[0], ..., B[n-1]`, `B[0]` being the highest-degree coefficient (R193, R198). -/
def blockEval (f : GField) (block : List Byte) (v : Byte) : Byte :=
  block.foldl (fun acc c => gfMul f acc v ^^^ c) 0#8

/-- The syndromes `S_1, ..., S_r` (R198). -/
def syndromes (f : GField) (r : Nat) (block : List Byte) : List Byte :=
  (List.range r).map fun i => blockEval f block (alphaPow f (i + 1))

/-- The variables of the Berlekamp-Massey loop (R199). -/
structure BmState where
  /-- `Λ`. -/
  lam : List Byte
  /-- `Bp`. -/
  bp : List Byte
  /-- `L`. -/
  len : Nat
  /-- `s`. -/
  shift : Nat
  /-- `b`. -/
  b : Byte
  deriving DecidableEq, Repr

/-- The discrepancy `d` of round t (R199): `S_{t+1} ⊕ (⊕_{i=1}^{L} Λ_i ⊗ S_{t+1-i})`, `S_j` being entry `j - 1` of the
list. -/
def bmDiscrepancy (f : GField) (syn : List Byte) (t : Nat) (v : BmState) : Byte :=
  (List.range v.len).foldl
    (fun acc i => acc ^^^ gfMul f (v.lam.getD (i + 1) 0#8) (syn.getD (t - (i + 1)) 0#8)) (syn.getD t 0#8)

/-- Round t of the Berlekamp-Massey loop (R199). -/
def bmRound (f : GField) (syn : List Byte) (v : BmState) (t : Nat) : BmState :=
  let d := bmDiscrepancy f syn t v
  if d = 0#8 then { v with shift := v.shift + 1 }
  else
    let lam := polyAdd v.lam (polyScale f (gfDiv f d v.b) (polyShift v.shift v.bp))
    if 2 * v.len ≤ t then { lam := lam, bp := v.lam, len := t + 1 - v.len, shift := 1, b := d }
    else { v with lam := lam, shift := v.shift + 1 }

/-- The Berlekamp-Massey loop over r syndromes (R199). -/
def berlekampMassey (f : GField) (syn : List Byte) : BmState :=
  (List.range syn.length).foldl (bmRound f syn) { lam := [1#8], bp := [1#8], len := 0, shift := 1, b := 1#8 }

/-- `α^(-e) = α^((N - e) mod N)` (R201). -/
def alphaNeg (f : GField) (e : Nat) : Byte := alphaPow f (gfOrder f.m - e)

/-- The Chien search: the positions e in [0, N) whose `α^(-e)` is a root of Λ (R201). -/
def chienSearch (f : GField) (lam : List Byte) : List Nat :=
  (List.range (gfOrder f.m)).filter fun e => polyEval f lam (alphaNeg f e) == 0#8

/-- The error evaluator `Ω = S·Λ mod x^r` (R203). -/
def errorEvaluator (f : GField) (r : Nat) (syn lam : List Byte) : List Byte := (polyMul f syn lam).take r

/-- Why a block is uncorrectable (R202). -/
inductive RsReason
  | roots | pad | forney
  deriving DecidableEq, Repr

/-- What the decoder finds (R206). `len` is L and `deg` is d_Λ. -/
inductive RsVerdict
  | clean
  | uncorrectable (reason : RsReason) (len deg : Nat)
  | corrected (block : List Byte) (len deg : Nat)
  deriving DecidableEq, Repr

/-- The block with `Y_e` added at every position e of `E` at once, symbol j being position `n-1-j` (R204, R205). -/
def forneyCorrect (f : GField) (lam omega : List Byte) (positions : List Nat) (block : List Byte) : List Byte :=
  block.zipIdx.map fun (c, j) =>
    let e := block.length - 1 - j
    if e ∈ positions then
      c ^^^ gfDiv f (polyEval f omega (alphaNeg f e)) (polyEval f (polyDeriv lam) (alphaNeg f e))
    else c

/-- The decoder on a received block (R198 to R206), with its checks in the order of R202. -/
def rsDecode (f : GField) (r : Nat) (block : List Byte) : RsVerdict :=
  let syn := syndromes f r block
  if syn.all (· == 0#8) then .clean
  else
    let v := berlekampMassey f syn
    let deg := polyDeg v.lam
    let positions := chienSearch f v.lam
    if positions.length ≠ deg ∨ deg ≠ v.len then .uncorrectable .roots v.len deg
    else if positions.any (fun e => decide (block.length ≤ e)) then .uncorrectable .pad v.len deg
    else if positions.any (fun e => polyEval f (polyDeriv v.lam) (alphaNeg f e) == 0#8) then
      .uncorrectable .forney v.len deg
    else .corrected (forneyCorrect f v.lam (errorEvaluator f r syn v.lam) positions block) v.len deg

/-! ### Results -/

/-- The REASON field (R207). -/
def RsReason.code : RsReason → BitVec 2
  | .roots => 1
  | .pad => 2
  | .forney => 3

/-- RES0 of RSCOR (R207): REASON in 10:9, FAIL in 8, NCORR in 7:0. -/
def rsRes0 : RsVerdict → Word
  | .clean => 0#32
  | .uncorrectable reason _ _ => (0#21 ++ reason.code ++ 1#1 ++ 0#8 : BitVec 32)
  | .corrected _ _ deg => (0#24 ++ BitVec.ofNat 8 deg : BitVec 32)

/-- RES1 of RSCOR (R207): LEN in 15:8, DEGL in 7:0. -/
def rsRes1 : RsVerdict → Word
  | .clean => 0#32
  | .uncorrectable _ len deg => (0#16 ++ BitVec.ofNat 8 len ++ BitVec.ofNat 8 deg : BitVec 32)
  | .corrected _ len deg => (0#16 ++ BitVec.ofNat 8 len ++ BitVec.ofNat 8 deg : BitVec 32)

/-! ### Commands -/

/-- The constructor constraints of R191. -/
def rsConfigOk (m k r : Nat) : Bool :=
  decide (3 ≤ m ∧ m ≤ 8 ∧ 1 ≤ r ∧ r ≤ 8 ∧ 1 ≤ k ∧ k + r ≤ 2 ^ m - 1)

/-- RSCFG m, k, r (R191). -/
def execRscfg (m k r : Byte) (s : State) : Result :=
  if rsConfigOk m.toNat k.toNat r.toNat then (s.setRsConfig true (m.setWidth 4) k r).complete
  else (s.setRsConfig false 0#4 0#8 0#8).failWith .cfg

/-- RSENC dst, src (R197): the data is read whole before the parity is written. -/
def execRsenc (dst src : Byte) (s : State) : Result :=
  if !s.rsValid then s.failWith .nocfg
  else if !rangeOk src s.rsK.toNat || !rangeOk dst s.rsR.toNat then s.failWith .range
  else
    let data := s.memRead src.toNat s.rsK.toNat
    if !data.all (isElement s.rsM.toNat) then s.failWith .operand
    else (s.memWrite dst.toNat (rsParity s.rsField s.rsR.toNat data)).complete

/-- RSCOR's effect for a verdict (R206): the block is written back only when it was corrected. -/
def State.applyVerdict (s : State) (a : Nat) (v : RsVerdict) : State :=
  match v with
  | .clean => s.setResult (rsRes0 v) (rsRes1 v)
  | .uncorrectable _ _ _ => s.setResult (rsRes0 v) (rsRes1 v)
  | .corrected block _ _ => (s.memWrite a block).setResult (rsRes0 v) (rsRes1 v)

/-- RSCOR addr (R206). -/
def execRscor (addr : Byte) (s : State) : Result :=
  if !s.rsValid then s.failWith .nocfg
  else if !rangeOk addr (s.rsK.toNat + s.rsR.toNat) then s.failWith .range
  else
    let block := s.memRead addr.toNat (s.rsK.toNat + s.rsR.toNat)
    if !block.all (isElement s.rsM.toNat) then s.failWith .operand
    else (s.applyVerdict addr.toNat (rsDecode s.rsField s.rsR.toNat block)).complete

end Sys2Proof.Machine
end

