-- ==== Sys2Proof/Machine/Bus.lean ====
section
/-! DEFINITION. The register window, the host's accesses to it, and the two resets (spec/10_state.md R22 to R34;
spec/20_memory.md R61 to R68; spec/70_reset_and_hazards.md R280 to R288). -/

namespace Sys2Proof.Machine

/-! ### The window's map -/

/-- What stands at an offset of the window (R22). -/
inductive Location
  | id | ctrl | status | cmd | arg0 | arg1 | res0 | res1 | rscfgr | bvcfgr | bvd0 | bvd1
  /-- The DBUF word whose lowest byte is `DBUF[a]` (R32). -/
  | dbuf (a : Nat)
  /-- The MAPRAM word whose lowest entry is `MAPRAM[i]` (R33). -/
  | mapram (i : Nat)
  /-- A reserved offset (R34). -/
  | reserved
  deriving DecidableEq, Repr

/-- The location at a word-aligned offset in [0, 0x1000) (R22). -/
def locate (offset : Nat) : Location :=
  if offset < 0x100 then
    match offset with
    | 0x000 => .id
    | 0x004 => .ctrl
    | 0x008 => .status
    | 0x00C => .cmd
    | 0x010 => .arg0
    | 0x014 => .arg1
    | 0x018 => .res0
    | 0x01C => .res1
    | 0x020 => .rscfgr
    | 0x024 => .bvcfgr
    | 0x028 => .bvd0
    | 0x02C => .bvd1
    | _ => .reserved
  else if offset < 0x200 then .dbuf (offset - 0x100)
  else if offset < 0x240 then .mapram (offset - 0x200)
  else .reserved

/-- The platform address of an offset: `BASE + offset` (R22, R101); its width is the model's (notes/assumptions/7.md). -/
def windowAddress (offset : Word) : Word := Config.base + offset

/-- How the window answers an access (R61, R68): `none` for an aligned 32-bit word inside it. -/
def accessProblem (width : AccessWidth) (offset : Word) : Option (Fault ⊕ Refusal) :=
  if 0x1000 ≤ offset.toNat then some (.inr .outsideWindow)
  else if width = .word ∧ offset.toNat % 4 = 0 then none
  else some (.inl (.unsupportedHostAccess Config.subwordResponse))

/-! ### Reads -/

/-- Four bytes as a word, byte lane 0 first (R62). -/
def laneWord (b0 b1 b2 b3 : Byte) : Word := b3 ++ b2 ++ b1 ++ b0

/-- RSCFGR (R29). -/
def State.rscfgrWord (s : State) : Word := (flagBit s.rsValid ++ 0#7 ++ s.rsR ++ s.rsK ++ 0#4 ++ s.rsM : BitVec 32)

/-- BVCFGR (R30). -/
def State.bvcfgrWord (s : State) : Word := (flagBit s.bvValid ++ 0#24 ++ s.bvLen : BitVec 32)

/-- The value of a location (R22 to R34). -/
def State.view (s : State) : Location → Word
  | .id => Config.idValue
  | .ctrl => s.ctrlWord
  | .status => s.statusWord
  | .cmd => s.cmdl
  | .arg0 => s.arg0
  | .arg1 => s.arg1
  | .res0 => s.res0
  | .res1 => s.res1
  | .rscfgr => s.rscfgrWord
  | .bvcfgr => s.bvcfgrWord
  | .bvd0 => laneWord (s.bvByte 0) (s.bvByte 1) (s.bvByte 2) (s.bvByte 3)
  | .bvd1 => laneWord (s.bvByte 4) (s.bvByte 5) (s.bvByte 6) (s.bvByte 7)
  | .dbuf a => laneWord (s.dbufByte a) (s.dbufByte (a + 1)) (s.dbufByte (a + 2)) (s.dbufByte (a + 3))
  | .mapram i => laneWord ((s.mapEntry i).setWidth 8) ((s.mapEntry (i + 1)).setWidth 8)
      ((s.mapEntry (i + 2)).setWidth 8) ((s.mapEntry (i + 3)).setWidth 8)
  | .reserved => 0#32

/-- The locations a command may write: their reads are draws while BUSY = 1 (R285). -/
def Location.drawnWhileBusy : Location → Bool
  | .res0 | .res1 | .rscfgr | .bvcfgr | .bvd0 | .bvd1 | .dbuf _ => true
  | .id | .ctrl | .status | .cmd | .arg0 | .arg1 | .mapram _ | .reserved => false

/-- A host read (R67: no side effect on the core; R285: a fresh draw of a command's locations while BUSY = 1). -/
def State.hostRead (s : State) (loc : Location) : State :=
  if s.busy && loc.drawnWhileBusy then (s.setHostData (Config.busyRead s.draws)).nextDraw
  else s.setHostData (s.view loc)

/-! ### Resets -/

/-- The DBUF range, address and length, that a command's rule could write (R283). -/
def State.writableRange (s : State) : Instr → Nat × Nat
  | .crc16w _ dst _ => (dst.toNat, 2)
  | .bvgetbytes count dst => (dst.toNat, count.toNat)
  | .rsenc dst _ => (dst.toNat, s.rsR.toNat)
  | .rscor addr => (addr.toNat, s.rsK.toNat + s.rsR.toNat)
  | .nop => (0, 0)
  | .bvcfg _ => (0, 0)
  | .bvsetbit _ _ => (0, 0)
  | .bvgetbit _ => (0, 0)
  | .bvsetbits _ _ => (0, 0)
  | .bvgetbits _ _ => (0, 0)
  | .bvsetbytes _ _ => (0, 0)
  | .crc16 _ _ => (0, 0)
  | .gfmul _ _ _ => (0, 0)
  | .gfdiv _ _ _ => (0, 0)
  | .gfexp _ _ => (0, 0)
  | .gflog _ _ => (0, 0)
  | .rscfg _ _ _ => (0, 0)

/-- The range of the command in flight, clipped to DBUF; empty if the word in CMDL names no command (R283). -/
def State.abandonRange (s : State) : Nat × Nat :=
  match decode s.cmdl with
  | .ok i =>
    let range := s.writableRange i
    (range.1, min range.2 (256 - range.1))
  | .error _ => (0, 0)

/-- The command in flight is abandoned: each DBUF byte it could write takes a free value (R283, U4). -/
def State.abandon (s : State) : State :=
  let range := s.abandonRange
  (s.memWrite range.1 ((List.range range.2).map fun j => Config.abandonedByte s.draws (range.1 + j))).nextDraw

/-- Every register and configuration at its reset value, the engine idle; DBUF, MAPRAM and CTRL.IE as they were (R282). -/
def State.clearUnits (s : State) : State :=
  { s with
    busy := false
    done := false
    err := false
    noop := false
    ovr := false
    errcode := none
    cmdl := 0#32
    arg0 := 0#32
    arg1 := 0#32
    res0 := 0#32
    res1 := 0#32
    rsValid := false
    rsM := 0#4
    rsK := 0#8
    rsR := 0#8
    bvValid := false
    bvLen := 0#7
    bv := 0#64
    delay := 0 }

/-- Soft reset, with the written IE (R24, R282, R283). -/
def State.softReset (s : State) (ie : Bool) : State :=
  ((if s.busy then s.abandon else s).clearUnits).setIe ie

/-- Power-on reset (R281): the reset state, with fresh power-on contents of DBUF and MAPRAM. What the host and the
platform will do, and what the host last read, are not the core's. -/
def State.powerOn (s : State) : State :=
  { State.resetWith s.prim with epoch := s.epoch + 1, draws := s.draws, inputs := s.inputs, hostData := s.hostData }

/-! ### Writes -/

/-- A host write to CTRL (R24). -/
def State.writeCtrl (s : State) (data : Word) : State :=
  if data.getLsbD 1 then s.softReset (data.getLsbD 0) else s.setIe (data.getLsbD 0)

/-- The bytes of a word, lane 0 first (R62). -/
def laneBytes (data : Word) : List Byte :=
  [data.extractLsb' 0 8, data.extractLsb' 8 8, data.extractLsb' 16 8, data.extractLsb' 24 8]

/-- The MAPRAM entries of a word, lane 0 first: bits 5:0 of each byte (R64). -/
def laneEntries (data : Word) : List (BitVec 6) :=
  [data.extractLsb' 0 6, data.extractLsb' 8 6, data.extractLsb' 16 6, data.extractLsb' 24 6]

/-- The operand locations, whose writes are dropped while BUSY = 1 (R286). -/
def Location.isOperand : Location → Bool
  | .cmd | .arg0 | .arg1 | .dbuf _ | .mapram _ => true
  | .id | .ctrl | .status | .res0 | .res1 | .rscfgr | .bvcfgr | .bvd0 | .bvd1 | .reserved => false

/-- A host write that is not dropped (R22 to R34). -/
def State.writeLocation (s : State) (loc : Location) (data : Word) : State :=
  match loc with
  | .ctrl => s.writeCtrl data
  | .status => s.writeStatus data
  | .cmd => s.acceptCommand data
  | .arg0 => s.setArg0 data
  | .arg1 => s.setArg1 data
  | .dbuf a => s.memWrite a (laneBytes data)
  | .mapram i => s.mapWrite i (laneEntries data)
  | .id => s
  | .res0 => s
  | .res1 => s
  | .rscfgr => s
  | .bvcfgr => s
  | .bvd0 => s
  | .bvd1 => s
  | .reserved => s

/-- A host write (R121, R286: dropped with OVR while BUSY = 1, at the operand locations). -/
def State.hostWrite (s : State) (loc : Location) (data : Word) : State :=
  if s.busy && loc.isOperand then s.dropWrite else s.writeLocation loc data

/-! ### The host's and the platform's step -/

/-- The oldest pending action is performed (R14, R70); with none pending nothing happens (R269). A WAIT is one STATUS
read, and stays pending while that read finds BUSY = 1 (R101). -/
def State.hostStep (s : State) : Result :=
  match s.inputs with
  | [] => .next s
  | .read width offset :: rest =>
    match accessProblem width offset with
    | some (.inl f) => .fault f
    | some (.inr r) => .refused r
    | none => .next (((s.setInputs rest).tick).hostRead (locate offset.toNat))
  | .write width offset data :: rest =>
    match accessProblem width offset with
    | some (.inl f) => .fault f
    | some (.inr r) => .refused r
    | none => .next (((s.setInputs rest).tick).hostWrite (locate offset.toNat) data)
  | .wait :: rest => .next (((if s.busy then s else s.setInputs rest).tick).hostRead .status)
  | .powerOnReset :: rest => .next (s.setInputs rest).powerOn

/-- It is the engine's turn: a command is in flight, and the host accesses that come before its end have been made or
the host makes no more (R122, R288). -/
def State.engineTurn (s : State) : Bool := s.busy && (s.inputs.isEmpty || s.delay == 0)

end Sys2Proof.Machine
end

