-- ==== Sys2Proof/Machine/BitVector.lean ====
section
/-! DEFINITION. The commands of the bit-vector unit (spec/41_bitvector.md). -/

namespace Sys2Proof.Machine

/-- The sizes BVCFG accepts: 8, 16, ..., 64 (R135). -/
def bvSizeOk (nbits : Nat) : Bool := decide (nbits ≠ 0 ∧ nbits % 8 = 0 ∧ nbits ≤ 64)

/-- BVCFG nbits (R135): the BV is zeroed whether or not the size is accepted. -/
def execBvcfg (nbits : Byte) (s : State) : Result :=
  if bvSizeOk nbits.toNat then (s.setBvConfig true (nbits.setWidth 7)).complete
  else (s.setBvConfig false 0#7).failWith .cfg

/-- BVSETBIT v, index (R136). -/
def execBvsetbit (v : Bool) (index : Byte) (s : State) : Result :=
  if !s.bvValid then s.failWith .nocfg
  else if s.bvBits ≤ index.toNat then s.failWith .range
  else (s.setBv (setBit s.bv index.toNat v)).complete

/-- BVGETBIT index (R137). -/
def execBvgetbit (index : Byte) (s : State) : Result :=
  if !s.bvValid then s.failWith .nocfg
  else if s.bvBits ≤ index.toNat then s.failWith .range
  else (s.setResult ((flagBit (s.bv.getLsbD index.toNat)).setWidth 32) 0#32).complete

/-- BVSETBITS sel, count (R138). -/
def execBvsetbits (sel : Selector) (count : Byte) (s : State) : Result :=
  match selectorMapping sel with
  | none => s.failWith .illegal
  | some mp =>
    if !s.bvValid then s.failWith .nocfg
    else if s.bvBits < count.toNat then s.completeNoop
    else if !s.mapOk mp count.toNat then s.failWith .range
    else (s.setBv (scatterBits (s.mapIndex mp) s.vin count.toNat)).complete

/-- BVGETBITS sel, count (R139). -/
def execBvgetbits (sel : Selector) (count : Byte) (s : State) : Result :=
  match selectorMapping sel with
  | none => s.failWith .illegal
  | some mp =>
    if !s.bvValid then s.failWith .nocfg
    else if s.bvBits < count.toNat then s.completeNoop
    else if !s.mapOk mp count.toNat then s.failWith .range
    else (s.setVout (gatherBits (s.mapIndex mp) s.bv count.toNat)).complete

/-- BVSETBYTES count, src (R140). -/
def execBvsetbytes (count src : Byte) (s : State) : Result :=
  if !s.bvValid then s.failWith .nocfg
  else if s.bvBytes < count.toNat then s.completeNoop
  else if !rangeOk src count.toNat then s.failWith .range
  else (s.setBv (packBytes (s.memRead src.toNat count.toNat))).complete

/-- BVGETBYTES count, dst (R141). -/
def execBvgetbytes (count dst : Byte) (s : State) : Result :=
  if !s.bvValid then s.failWith .nocfg
  else if s.bvBytes < count.toNat then s.completeNoop
  else if !rangeOk dst count.toNat then s.failWith .range
  else (s.memWrite dst.toNat ((List.range count.toNat).map s.bvByte)).complete

end Sys2Proof.Machine
end

