-- ==== Sys2Proof/Machine/Crc.lean ====
section
/-! DEFINITION. The CRC16-CCITT unit (spec/42_crc16.md). -/

namespace Sys2Proof.Machine

/-- One bit of the CRC register: shift left, and XOR 0x1021 if the bit shifted out was 1 (R160). -/
def crcShift (c : BitVec 16) : BitVec 16 :=
  if c.getLsbD 15 then (c <<< 1) ^^^ 0x1021#16 else c <<< 1

/-- `n` bits of the CRC register. -/
def crcShifts : Nat → BitVec 16 → BitVec 16
  | 0, c => c
  | n + 1, c => crcShifts n (crcShift c)

/-- One byte of the message (R160). -/
def crcByte (c : BitVec 16) (b : Byte) : BitVec 16 := crcShifts 8 (c ^^^ (b.setWidth 16 <<< 8))

/-- `crc16(L)` (R160): initial value 0xFFFF, most significant bit first, no final XOR. -/
def crc16 (bytes : List Byte) : BitVec 16 := bytes.foldl crcByte 0xFFFF#16

/-- The two bytes of a CRC in the order they are stored, high byte first (R162, R164). -/
def crcBytes (c : BitVec 16) : List Byte := [c.extractLsb' 8 8, c.extractLsb' 0 8]

/-- CRC16 len, src (R163). -/
def execCrc16 (len src : Byte) (s : State) : Result :=
  if !rangeOk src len.toNat then s.failWith .range
  else (s.setResult ((crc16 (s.memRead src.toNat len.toNat)).setWidth 32) 0#32).complete

/-- CRC16W len, dst, src (R164): the source is read whole before the destination is written. -/
def execCrc16w (len dst src : Byte) (s : State) : Result :=
  if !rangeOk src len.toNat || !rangeOk dst 2 then s.failWith .range
  else
    let c := crc16 (s.memRead src.toNat len.toNat)
    ((s.memWrite dst.toNat (crcBytes c)).setResult (c.setWidth 32) 0#32).complete

end Sys2Proof.Machine
end

