-- ==== Sys2Proof/Machine/System.lean ====
section
/-! DEFINITION. The system command NOP (spec/40_system.md). -/

namespace Sys2Proof.Machine

/-- NOP: completes with no effect (R124). -/
def execNop (s : State) : Result := s.complete

end Sys2Proof.Machine
end

