-- ==== Sys2Proof/Machine/Dispatch.lean ====
section
/-! DEFINITION. The meaning of each command: what the engine's step does with it (spec/40_system.md R122). -/

namespace Sys2Proof.Machine

def exec (i : Instr) (s : State) : Host.Outcome State Fault Refusal :=
  match i with
  | .nop => Sys2Proof.Machine.execNop s
  | .bvcfg nbits => Sys2Proof.Machine.execBvcfg nbits s
  | .bvsetbit v index => Sys2Proof.Machine.execBvsetbit v index s
  | .bvgetbit index => Sys2Proof.Machine.execBvgetbit index s
  | .bvsetbits sel count => Sys2Proof.Machine.execBvsetbits sel count s
  | .bvgetbits sel count => Sys2Proof.Machine.execBvgetbits sel count s
  | .bvsetbytes count src => Sys2Proof.Machine.execBvsetbytes count src s
  | .bvgetbytes count dst => Sys2Proof.Machine.execBvgetbytes count dst s
  | .crc16 len src => Sys2Proof.Machine.execCrc16 len src s
  | .crc16w len dst src => Sys2Proof.Machine.execCrc16w len dst src s
  | .gfmul m a b => Sys2Proof.Machine.execGfmul m a b s
  | .gfdiv m a b => Sys2Proof.Machine.execGfdiv m a b s
  | .gfexp m e => Sys2Proof.Machine.execGfexp m e s
  | .gflog m x => Sys2Proof.Machine.execGflog m x s
  | .rscfg m k r => Sys2Proof.Machine.execRscfg m k r s
  | .rsenc dst src => Sys2Proof.Machine.execRsenc dst src s
  | .rscor addr => Sys2Proof.Machine.execRscor addr s

end Sys2Proof.Machine
end

