-- ==== Sys2Proof/Machine/Step.lean ====
section
/-! DEFINITION. One step of the machine: the engine's or the host's (spec/00_scope.md R14; spec/40_system.md R122). -/

namespace Sys2Proof.Machine

/-- The engine performs the command in CMDL whole; a word that names no command fails as ILLEGAL (R94, R95, R96,
R122). -/
def engineStep (s : State) : Host.Outcome State Fault Refusal :=
  match decode s.cmdl with
  | .ok i => exec i s
  | .error _ => s.failWith .illegal

/-- One step: the engine's when it is its turn, and otherwise the host's (R14, R70, R122). -/
def step (s : State) : Host.Outcome State Fault Refusal :=
  if s.engineTurn then engineStep s else s.hostStep

/-- `s` with a row's word as the command in flight, so that the next step performs it. -/
def State.withFetchWord (s : State) (nbits w : Nat) : State := s.latchCommand (tableWord nbits w)

end Sys2Proof.Machine
end

