-- ==== Sys2Proof/Machine/HostProcedures.lean ====
section
/-! DEFINITION. The host-side reference procedures (spec/45_host_procedures.md): host programs that drive the core
through its window. They are not hardware (spec/00_scope.md R5): the core has no state and no step for them. Each one
issues a command only when the one before has ended (R230), so the core is idle at every access here. -/

namespace Sys2Proof.Machine

/-- `ISSUE` (R101): write the word to CMD and WAIT. The command is performed whole before the host goes on. -/
def State.issue (s : State) (w : Word) : State :=
  match engineStep (s.acceptCommand w) with
  | .next t => t
  | .fault _ => s
  | .refused _ => s

/-- `ISSUE` and the check that R230 asks for: STATUS.ERR = 0, or the procedure stops with failure. -/
def State.issueChecked (s : State) (i : Instr) : Option State :=
  let t := s.issue (encode i)
  if t.err then none else some t

/-- The whitening constant `WHITEN` (R6, R232). -/
def whiten : BitVec 16 := 0xA5A5#16

/-- The field of the payload's parity, m = 8 (R232). -/
def payloadField (polys : Config.PrimPolys) : GField := { m := 8, poly := polys.poly 8 }

/-- The payload block of an id (R232). -/
def payload (polys : Config.PrimPolys) (id : BitVec 16) : List Byte :=
  let pid := id ^^^ whiten
  let head := [pid.extractLsb' 8 8, pid.extractLsb' 0 8]
  let data := head ++ crcBytes (crc16 head)
  data ++ rsParity (payloadField polys) 4 data

/-- Payload encode as commands, with the block at DBUF[0..7] (R232). -/
def encodePayload (s : State) (id : BitVec 16) : Option State :=
  let pid := id ^^^ whiten
  let s1 := s.hostWrite (.dbuf 0) (laneWord (pid.extractLsb' 8 8) (pid.extractLsb' 0 8) 0#8 0#8)
  match s1.issueChecked (.rscfg 8 4 4) with
  | none => none
  | some s2 =>
    match s2.issueChecked (.crc16w 2 2 0) with
    | none => none
    | some s3 => s3.issueChecked (.rsenc 4 0)

/-- The 64 logical samples of the block at DBUF[0..7], packed through a mapping (R233: NORTH makes the tag). -/
def samplePattern (s : State) (sel : Selector) : Option (State × BitVec 64) :=
  match s.issueChecked (.bvcfg 64) with
  | none => none
  | some s1 =>
    match s1.issueChecked (.bvsetbytes 8 0) with
    | none => none
    | some s2 =>
      match s2.issueChecked (.bvgetbits sel 64) with
      | none => none
      | some s3 => some (s3, s3.view .res1 ++ s3.view .res0)

/-- The numeric code of a rotation (R231). -/
def rotationCode : Rotation → Nat
  | .north => 0
  | .east => 1
  | .south => 2
  | .west => 3

/-- The code of UNKNOWN (R231). -/
def unknownCode : Nat := 4

/-- The selector of a rotation: its code plus 1 (R231, R97). -/
def rotationSelector : Rotation → Selector
  | .north => .north
  | .east => .east
  | .south => .south
  | .west => .west

/-- The trial order (R231). -/
def trialOrder : List Rotation := [.north, .east, .south, .west]

/-- A candidate: a rotation and an id (R234). -/
abbrev Candidate := Rotation × BitVec 16

/-- The check of R234, steps 3 and 4: the CRC in RES0 against `{DBUF[2], DBUF[3]}`, and the candidate. -/
def candidateOf (s : State) (rot : Rotation) : Option Candidate :=
  let block := s.view (.dbuf 0)
  if (s.view .res0).extractLsb' 0 16 = block.extractLsb' 16 8 ++ block.extractLsb' 24 8 then
    some (rot, (block.extractLsb' 0 8 ++ block.extractLsb' 8 8) ^^^ whiten)
  else none

/-- One trial of the orientation decode (R234); `none` is a STATUS.ERR, which ends the procedure (R230). -/
def orientationTrial (s : State) (rot : Rotation) : Option (State × Option Candidate) :=
  match s.issueChecked (.bvsetbits (rotationSelector rot) 64) with
  | none => none
  | some s1 =>
    match s1.issueChecked (.bvgetbytes 8 0) with
    | none => none
    | some s2 =>
      match s2.issueChecked (.rscor 0) with
      | none => none
      | some s3 =>
        if (s3.view .res0).getLsbD 8 then some (s3, none)
        else
          match s3.issueChecked (.crc16 2 0) with
          | none => none
          | some s4 => some (s4, candidateOf s4 rot)

/-- The trials of a list of rotations, in its order, with the candidates they record (R234). -/
def orientationTrials (s : State) : List Rotation → Option (State × List Candidate)
  | [] => some (s, [])
  | rot :: rots =>
    match orientationTrial s rot with
    | none => none
    | some (s1, found) =>
      match orientationTrials s1 rots with
      | none => none
      | some (s2, cands) => some (s2, found.toList ++ cands)

/-- The configuration and the samples a decode starts from (R234). -/
def decodeSetup (s : State) (samples : BitVec 64) : Option State :=
  match s.issueChecked (.bvcfg 64) with
  | none => none
  | some s1 =>
    match s1.issueChecked (.rscfg 8 4 4) with
    | none => none
    | some s2 =>
      some ((s2.hostWrite .arg0 (samples.extractLsb' 0 32)).hostWrite .arg1 (samples.extractLsb' 32 32))

/-- The block a trial decodes: bit `PERM[rot][i]` of the vector is sample i, taken as eight bytes (R234, step 1). -/
def trialBlock (perm : Rotation → Equiv.Perm (BitVec 6)) (samples : BitVec 64) (rot : Rotation) : List Byte :=
  let v := scatterBits (fun i => (perm rot (BitVec.ofNat 6 i)).toNat) samples 64
  (List.range 8).map fun j => v.extractLsb' (8 * j) 8

/-- The candidate of a trial, said of the tables alone (R234, steps 2 to 4): none if the block is uncorrectable or its
CRC does not match. -/
def trialCandidate (polys : Config.PrimPolys) (perm : Rotation → Equiv.Perm (BitVec 6)) (samples : BitVec 64)
    (rot : Rotation) : Option Candidate :=
  let received := trialBlock perm samples rot
  let judge (block : List Byte) : Option Candidate :=
    match block with
    | b0 :: b1 :: b2 :: b3 :: _ => if crc16 [b0, b1] = b2 ++ b3 then some (rot, (b0 ++ b1) ^^^ whiten) else none
    | [] | [_] | [_, _] | [_, _, _] => none
  match rsDecode (payloadField polys) 4 received with
  | .clean => judge received
  | .corrected block _ _ => judge block
  | .uncorrectable _ _ _ => none

/-- The premise of R238 on `PERM`, for the samples of one tag: no trial but that of its own rotation finds a
candidate. -/
def trialsSeparate (polys : Config.PrimPolys) (perm : Rotation → Equiv.Perm (BitVec 6)) (samples : BitVec 64)
    (rot : Rotation) : Bool :=
  trialOrder.all fun other => other == rot || (trialCandidate polys perm samples other).isNone

/-- The result of a decode (R236). On failure the id and the corners have no value, and the rotation is UNKNOWN. -/
inductive DecodeResult (α : Type)
  | success (id : BitVec 16) (rotation : Rotation) (corners : Fin 4 → α)
  | failure

/-- The rotation code of a result (R231, R236). -/
def decodeRotationCode {α : Type} : DecodeResult α → Nat
  | .success _ rot _ => rotationCode rot
  | .failure => unknownCode

/-- Corner reordering: `out[i] = corners[(i + code) mod 4]` (R237). -/
def reorderCorners {α : Type} (rot : Rotation) (corners : Fin 4 → α) : Fin 4 → α :=
  fun i => corners (Fin.ofNat 4 (i.val + rotationCode rot))

/-- The uniqueness policy: exactly one candidate, or failure (R235). -/
def uniqueCandidate {α : Type} (corners : Fin 4 → α) : List Candidate → DecodeResult α
  | [(rot, id)] => .success id rot (reorderCorners rot corners)
  | [] => .failure
  | _ :: _ :: _ => .failure

/-- The 64 sample bytes as bits, or nothing if there are not 64 of them or one is neither 0 nor 1 (R233). -/
def sampleBits (samples : List Byte) : Option (BitVec 64) :=
  if samples.length = 64 ∧ samples.all (fun b => b == 0#8 || b == 1#8) then
    some ((BitVec.ofBoolListLE (samples.map (· == 1#8))).setWidth 64)
  else none

/-- The orientation decode (R230, R233 to R236). -/
def decodeTag {α : Type} (s : State) (samples : List Byte) (corners : Fin 4 → α) : DecodeResult α :=
  match sampleBits samples with
  | none => .failure
  | some bits =>
    match decodeSetup s bits with
    | none => .failure
    | some s1 =>
      match orientationTrials s1 trialOrder with
      | none => .failure
      | some (_, cands) => uniqueCandidate corners cands

end Sys2Proof.Machine
end

