-- ==== Sys2Proof/Safety.lean ====
section
/-! DEFINITION. What holds of the core in every state a run reaches: the terms the claims use. -/

namespace Sys2Proof.Machine

/-! ### The invariant -/

/-- STATUS is consistent (R25, R120): ERR says that ERRCODE is not 0, ERR and NOOP exclude each other, and while a
command is in flight the outcome flags of the one before are clear. -/
abbrev State.statusInv (s : State) : Prop :=
  (s.err = s.errcode.isSome) ∧ (s.err && s.noop) = false ∧ (s.busy = true → s.done = false ∧ s.err = false ∧ s.noop = false)

/-- The bit vector (R35): BV_LEN is 0, 8, ..., 64, it is not 0 exactly when BV_VALID = 1, and every bit at or beyond it
is 0. -/
abbrev State.bvInv (s : State) : Prop :=
  s.bvLen.toNat % 8 = 0 ∧ s.bvLen.toNat ≤ 64 ∧ (s.bvValid = decide (s.bvLen.toNat ≠ 0)) ∧
    s.bv.toNat < 2 ^ s.bvLen.toNat

/-- The Reed-Solomon configuration (R36, R191): the constraints of RSCFG hold of a valid one, and an invalid one is all
zero. -/
abbrev State.rsInv (s : State) : Prop :=
  if s.rsValid then rsConfigOk s.rsM.toNat s.rsK.toNat s.rsR.toNat = true
  else s.rsM = 0#4 ∧ s.rsK = 0#8 ∧ s.rsR = 0#8

/-- `x^n · a` reduced modulo PRIM_POLY[m]. -/
def timesXPow (f : GField) : Nat → Byte → Byte
  | 0, a => a
  | n + 1, a => gfTimesX f (timesXPow f n a)

/-- The polynomial is one R171 allows: of degree m, and primitive, that is, the construction of R172 returns to 1 only
after exactly N steps. -/
def GField.ok (f : GField) : Bool :=
  gfSizeOk f.m && f.poly >>> f.m == 1#9 && timesXPow f (gfOrder f.m) 1#8 == 1#8 &&
    ((alphaTable f).drop 1).all (· != 1#8)

/-- `PRIM_POLY` is what R171 asks of it, for every symbol size. -/
abbrev State.primInv (s : State) : Prop := ∀ m ∈ [3, 4, 5, 6, 7, 8], (s.field m).ok = true

/-- DBUF and MAPRAM are in canonical form (R60). -/
abbrev State.memInv (s : State) : Prop := Memory.wf s.dbuf = true ∧ MapRam.wf s.mapram = true

/-- The invariant of the core. -/
abbrev State.Inv (s : State) : Prop := s.statusInv ∧ s.bvInv ∧ s.rsInv ∧ s.primInv ∧ s.memInv

/-- A step that the host's own misuse cannot stop: the next action, if it is an access, is an aligned 32-bit access to
the window (R61, R287). -/
def State.hostConforms (s : State) : Bool :=
  match s.inputs with
  | .read width offset :: _ => (accessProblem width offset).isNone
  | .write width offset _ :: _ => (accessProblem width offset).isNone
  | [] => true
  | .wait :: _ => true
  | .powerOnReset :: _ => true

/-! ### How a command ends -/

/-- `s` with a command just ended: BUSY low, DONE high, and the outcome in NOOP, ERR and ERRCODE (the table of R250).
Nothing else differs from `s`. -/
def State.ended (s : State) (noopFlag errFlag : Bool) (code : Option CmdError) : State :=
  { s with busy := false, done := true, noop := noopFlag, err := errFlag, errcode := code }

/-- The `ok` outcome (R250). -/
def State.completed (s : State) : State := s.ended false false none

/-- The `noop` outcome (R250, R253). -/
def State.nooped (s : State) : State := s.ended true false none

/-- The `fail E` outcome (R250, R252). -/
def State.failed (s : State) (e : CmdError) : State := s.ended false true (some e)

/-- The error codes a command that decodes may end with (the table of R257; a reserved SEL is the one ILLEGAL that
decodes, R94). -/
def allowedErrors : Instr → List CmdError
  | .nop => []
  | .bvcfg _ => [.cfg]
  | .bvsetbit _ _ => [.nocfg, .range]
  | .bvgetbit _ => [.nocfg, .range]
  | .bvsetbits _ _ => [.illegal, .nocfg, .range]
  | .bvgetbits _ _ => [.illegal, .nocfg, .range]
  | .bvsetbytes _ _ => [.nocfg, .range]
  | .bvgetbytes _ _ => [.nocfg, .range]
  | .crc16 _ _ => [.range]
  | .crc16w _ _ _ => [.range]
  | .gfmul _ _ _ => [.operand]
  | .gfdiv _ _ _ => [.operand, .zero]
  | .gfexp _ _ => [.operand]
  | .gflog _ _ => [.operand, .zero]
  | .rscfg _ _ _ => [.cfg]
  | .rsenc _ _ => [.nocfg, .range, .operand]
  | .rscor _ => [.nocfg, .range, .operand]

/-! ### The core without the model's own fields -/

/-- What of a state is the core's: the model's own fields but `epoch`, which says what unwritten memory holds, are set
aside. -/
def State.coreState (s : State) : State := { s with delay := 0, draws := 0, inputs := [], hostData := 0#32 }

/-! ### Reference forms of the arithmetic -/

/-- The product of the polynomials `a` and `b` reduced modulo PRIM_POLY[m], over the terms of `b` below `x^n` (R174):
the sum of `x^i · a` over the bits i of `b` that are 1. -/
def polyProduct (f : GField) (a b : Byte) : Nat → Byte
  | 0 => 0#8
  | n + 1 => polyProduct f a b n ^^^ (if b.getLsbD n then timesXPow f n a else 0#8)

/-- A block is a codeword: all its syndromes are zero (R12, R196, R198). -/
def isCodeword (f : GField) (r : Nat) (block : List Byte) : Bool :=
  (List.range r).all fun i => blockEval f block (alphaPow f (i + 1)) == 0#8

/-- In how many places two blocks of one length differ. -/
def distance (b c : List Byte) : Nat := (b.zip c).countP fun p => p.1 != p.2

end Sys2Proof.Machine
end

