-- ==== Sys2Proof/Certificates/Slice0/Obligations.lean ====
section
/-! DEFINITION. The statements about the core, for the provers. Each docstring names the rule of spec/ it rests on. -/

open Sys2Proof Sys2Proof.Machine

/-! ### The command word -/

/-- R93, R94: the encoding loses no operand of any command. -/
def Obligations.EveryCommandDecodesFromItsWord : Prop :=
  ∀ i : Instr, decode (encode i) = .ok i

/-- R93, R94: a word that names a command is that command's one encoding. -/
def Obligations.EveryDecodedWordIsItsEncoding : Prop :=
  ∀ (w : Word) (i : Instr), decode w = .ok i → encode i = w

/-- R94: a word names a row's command exactly when `word & mask == match`. -/
def Obligations.WordNamesRowIffMaskMatches : Prop :=
  ∀ (w : Word) (j : Instr), w &&& j.row.1 = j.row.2 ↔ ∃ i, decode w = .ok i ∧ i.row = j.row

/-- R95: a reserved OPC fails with ILLEGAL and has no other effect. -/
def Obligations.ReservedOpcodeFailsIllegal : Prop :=
  ∀ s : State, s.engineTurn = true →
    (opcOf s.cmdl = 0x0A#5 ∨ opcOf s.cmdl = 0x0B#5 ∨ 0x13 ≤ (opcOf s.cmdl).toNat) →
    step s = .next (s.failed .illegal)

/-- R96: a defined opcode with a field that must be zero and is not fails with ILLEGAL and has no other effect. -/
def Obligations.NonzeroReservedFieldFailsIllegal : Prop :=
  ∀ (s : State) (j : Instr), s.engineTurn = true → opcOf s.cmdl = opcOf (encode j) →
    s.cmdl &&& j.row.1 ≠ j.row.2 → step s = .next (s.failed .illegal)

/-- R97, R138, R139: SEL 6 and 7 are the reserved selectors, and they fail with ILLEGAL before any other check. -/
def Obligations.ReservedSelectorFailsIllegal : Prop :=
  (∀ sel : BitVec 3, (decodeSelector sel).isReserved = decide (6 ≤ sel.toNat)) ∧
  ∀ (s : State) (sel : Selector) (count : Byte), sel.isReserved = true →
    exec (.bvsetbits sel count) s = .next (s.failed .illegal) ∧
    exec (.bvgetbits sel count) s = .next (s.failed .illegal)

/-- R93, R98 and the words V-ENC-1 to V-ENC-18 of spec/95_test_vectors.md: words written out from the encoding name
the commands they stand for, only the zero word is NOP, and the word of all ones names none. -/
def Obligations.SpecWordsDecodeToTheirCommands : Prop :=
  (∀ w : Word, decode w = .ok .nop ↔ w = 0#32) ∧ (∀ i, decode 0xFFFFFFFF#32 ≠ .ok i) ∧
  decode 0x08400000#32 = .ok (.bvcfg 64) ∧ decode 0x10000109#32 = .ok (.bvsetbit true 9) ∧
  decode 0x18000009#32 = .ok (.bvgetbit 9) ∧ decode 0x25400000#32 = .ok (.bvsetbits .user 64) ∧
  decode 0x29400000#32 = .ok (.bvgetbits .north 64) ∧ decode 0x300800FA#32 = .ok (.bvsetbytes 8 250) ∧
  decode 0x38081000#32 = .ok (.bvgetbytes 8 0x10) ∧ decode 0x40090040#32 = .ok (.crc16 9 0x40) ∧
  decode 0x48020200#32 = .ok (.crc16w 2 2 0) ∧ decode 0x600853CA#32 = .ok (.gfmul 8 0x53 0xCA) ∧
  decode 0x68080102#32 = .ok (.gfdiv 8 1 2) ∧ decode 0x70080800#32 = .ok (.gfexp 8 8) ∧
  decode 0x7808001D#32 = .ok (.gflog 8 0x1D) ∧ decode 0x8008F708#32 = .ok (.rscfg 8 247 8) ∧
  decode 0x88000400#32 = .ok (.rsenc 4 0) ∧ decode 0x900000F8#32 = .ok (.rscor 248)

/-! ### The two agents -/

/-- R14, R122, R269: on the engine's turn a step is the meaning of the command in CMDL and nothing around it. The
engine never moves while BUSY = 0, and with no action pending either nothing changes. When the engine has its turn
while BUSY = 1 is the model's form of R288 (notes/assumptions/1.md). -/
def Obligations.StepRunsTheDecodedCommand : Prop :=
  (∀ (s : State) (i : Instr), s.engineTurn = true → decode s.cmdl = .ok i → step s = exec i s) ∧
  (∀ s : State, s.busy = false → s.engineTurn = false) ∧
  (∀ s : State, s.busy = true → s.inputs = [] ∨ s.delay = 0 → s.engineTurn = true) ∧
  (∀ s : State, s.busy = false → s.inputs = [] → step s = .next s)

/-! ### System and bit-vector commands -/

/-- R124: NOP completes with no effect. -/
def Obligations.NopCompletesWithNoEffect : Prop :=
  ∀ s : State, exec .nop s = .next s.completed

/-- R135: BVCFG with a size of 8, 16, ..., 64 zeroes the vector and sets BV_LEN and BV_VALID; with any other size it
fails with CFG and leaves the vector zeroed and invalid. -/
def Obligations.BvcfgConfiguresOrInvalidates : Prop :=
  ∀ (s : State) (nbits : Byte),
    (nbits.toNat ∈ [8, 16, 24, 32, 40, 48, 56, 64] →
      ∃ len : BitVec 7, len.toNat = nbits.toNat ∧
        exec (.bvcfg nbits) s = .next { s with bv := 0#64, bvValid := true, bvLen := len }.completed) ∧
    (nbits.toNat ∉ [8, 16, 24, 32, 40, 48, 56, 64] →
      exec (.bvcfg nbits) s = .next ({ s with bv := 0#64, bvValid := false, bvLen := 0#7 }.failed .cfg))

/-- R136: BVSETBIT writes the one bit at its index; every other bit of the vector and all other state is unchanged. -/
def Obligations.BvsetbitWritesOneBit : Prop :=
  ∀ (s : State) (v : Bool) (index : Byte), s.bvInv → s.bvValid = true → index.toNat < s.bvLen.toNat →
    ∃ t, exec (.bvsetbit v index) s = .next t ∧
      (∀ p, p < 64 → t.bv.getLsbD p = if p = index.toNat then v else s.bv.getLsbD p) ∧
      { t with bv := s.bv } = s.completed

/-- R137: BVGETBIT reads the one bit at its index into RES0 and writes 0 to RES1. -/
def Obligations.BvgetbitReadsOneBit : Prop :=
  ∀ (s : State) (index : Byte), s.bvValid = true → index.toNat < s.bvLen.toNat →
    exec (.bvgetbit index) s =
      .next { s with res0 := if s.bv.getLsbD index.toNat then 1#32 else 0#32, res1 := 0#32 }.completed

/-- R97, R133: what each selector maps a logical index to, and that every mapped index is below 64. -/
def Obligations.SelectorsMapAsTabled : Prop :=
  ∀ (s : State) (i : Nat), i < 64 →
    ((decodeSelector 0, decodeSelector 1, decodeSelector 2, decodeSelector 3, decodeSelector 4, decodeSelector 5) =
      (.ident, .north, .east, .south, .west, .user)) ∧
    (selectorMapping .ident).map (s.mapIndex · i) = some i ∧
    (selectorMapping .north).map (s.mapIndex · i) = some (Config.perm .north (BitVec.ofNat 6 i)).toNat ∧
    (selectorMapping .east).map (s.mapIndex · i) = some (Config.perm .east (BitVec.ofNat 6 i)).toNat ∧
    (selectorMapping .south).map (s.mapIndex · i) = some (Config.perm .south (BitVec.ofNat 6 i)).toNat ∧
    (selectorMapping .west).map (s.mapIndex · i) = some (Config.perm .west (BitVec.ofNat 6 i)).toNat ∧
    (selectorMapping .user).map (s.mapIndex · i) = some (s.mapEntry i).toNat ∧
    ∀ mp, s.mapIndex mp i < 64

/-- R138, R143: after BVSETBITS a bit of the vector is 1 exactly when the last logical index below the count that maps
to it has value 1 in {ARG1, ARG0}; every other bit is 0, and all other state is unchanged. -/
def Obligations.BvsetbitsScattersThroughTheMapping : Prop :=
  ∀ (s : State) (sel : Selector) (mp : Mapping) (count : Byte), s.bvInv → s.bvValid = true →
    selectorMapping sel = some mp → count.toNat ≤ s.bvLen.toNat →
    (∀ i, i < count.toNat → s.mapIndex mp i < s.bvLen.toNat) →
    ∃ t, exec (.bvsetbits sel count) s = .next t ∧
      (∀ p, p < 64 → (t.bv.getLsbD p = true ↔ ∃ i, i < count.toNat ∧ s.mapIndex mp i = p ∧
        (if i < 32 then s.arg0.getLsbD i else s.arg1.getLsbD (i - 32)) = true ∧
        ∀ j, i < j → j < count.toNat → s.mapIndex mp j ≠ p)) ∧
      { t with bv := s.bv } = s.completed

/-- R139: BVGETBITS puts the mapped bit at each logical index below the count into {RES1, RES0}, and 0 from the count
on; all other state is unchanged. -/
def Obligations.BvgetbitsGathersThroughTheMapping : Prop :=
  ∀ (s : State) (sel : Selector) (mp : Mapping) (count : Byte), s.bvInv → s.bvValid = true →
    selectorMapping sel = some mp → count.toNat ≤ s.bvLen.toNat →
    (∀ i, i < count.toNat → s.mapIndex mp i < s.bvLen.toNat) →
    ∃ t, exec (.bvgetbits sel count) s = .next t ∧
      (∀ p, p < 64 → (if p < 32 then t.res0.getLsbD p else t.res1.getLsbD (p - 32)) =
        (decide (p < count.toNat) && s.bv.getLsbD (s.mapIndex mp p))) ∧
      { t with res0 := s.res0, res1 := s.res1 } = s.completed

/-- R140: BVSETBYTES loads bytes from DBUF, zeroes the rest of the vector, and changes nothing else. -/
def Obligations.BvsetbytesLoadsBytes : Prop :=
  ∀ (s : State) (count src : Byte), s.bvInv → s.bvValid = true → 8 * count.toNat ≤ s.bvLen.toNat →
    src.toNat + count.toNat ≤ 256 →
    ∃ t, exec (.bvsetbytes count src) s = .next t ∧
      (∀ j, j < 8 → t.bvByte j = if j < count.toNat then s.dbufByte (src.toNat + j) else 0#8) ∧
      { t with bv := s.bv } = s.completed

/-- R141: BVGETBYTES stores the vector's bytes at `dst`, and changes no other byte of DBUF and nothing else. -/
def Obligations.BvgetbytesStoresBytes : Prop :=
  ∀ (s : State) (count dst : Byte), s.bvInv → s.bvValid = true → 8 * count.toNat ≤ s.bvLen.toNat →
    dst.toNat + count.toNat ≤ 256 →
    ∃ t, exec (.bvgetbytes count dst) s = .next t ∧
      (∀ j, j < count.toNat → t.dbufByte (dst.toNat + j) = s.bvByte j) ∧
      (∀ a, a < dst.toNat ∨ dst.toNat + count.toNat ≤ a → t.dbufByte a = s.dbufByte a) ∧
      { t with dbuf := s.dbuf } = s.completed

/-- R130, R131, R136 to R141, R256: the errors of the bit-vector commands, in their order. -/
def Obligations.BvCommandsFailInOrder : Prop :=
  ∀ (s : State) (v : Bool) (index count addr : Byte) (sel : Selector) (mp : Mapping), selectorMapping sel = some mp →
    (s.bvValid = false →
      exec (.bvsetbit v index) s = .next (s.failed .nocfg) ∧ exec (.bvgetbit index) s = .next (s.failed .nocfg) ∧
      exec (.bvsetbits sel count) s = .next (s.failed .nocfg) ∧
      exec (.bvgetbits sel count) s = .next (s.failed .nocfg) ∧
      exec (.bvsetbytes count addr) s = .next (s.failed .nocfg) ∧
      exec (.bvgetbytes count addr) s = .next (s.failed .nocfg)) ∧
    (s.bvValid = true → s.bvLen.toNat ≤ index.toNat →
      exec (.bvsetbit v index) s = .next (s.failed .range) ∧ exec (.bvgetbit index) s = .next (s.failed .range)) ∧
    (s.bvValid = true → count.toNat ≤ s.bvLen.toNat →
      (∃ i, i < count.toNat ∧ s.bvLen.toNat ≤ s.mapIndex mp i) →
      exec (.bvsetbits sel count) s = .next (s.failed .range) ∧
      exec (.bvgetbits sel count) s = .next (s.failed .range)) ∧
    (s.bvValid = true → count.toNat ≤ s.bvLen.toNat / 8 → 256 < addr.toNat + count.toNat →
      exec (.bvsetbytes count addr) s = .next (s.failed .range) ∧
      exec (.bvgetbytes count addr) s = .next (s.failed .range))

/-- R253: a count above capacity is a contract no-op, in the four bulk commands and in no other. -/
def Obligations.CountAboveCapacityIsTheOnlyNoop : Prop :=
  (∀ (s : State) (sel : Selector) (count addr : Byte), s.bvValid = true →
    (sel.isReserved = false → s.bvLen.toNat < count.toNat →
      exec (.bvsetbits sel count) s = .next s.nooped ∧ exec (.bvgetbits sel count) s = .next s.nooped) ∧
    (s.bvLen.toNat / 8 < count.toNat →
      exec (.bvsetbytes count addr) s = .next s.nooped ∧ exec (.bvgetbytes count addr) s = .next s.nooped)) ∧
  ∀ (s t : State) (i : Instr), exec i s = .next t → t.noop = true →
    t = s.nooped ∧
      ((∃ sel count, (i = .bvsetbits sel count ∨ i = .bvgetbits sel count) ∧ s.bvLen.toNat < count.toNat) ∨
        ∃ count addr, (i = .bvsetbytes count addr ∨ i = .bvgetbytes count addr) ∧ s.bvLen.toNat / 8 < count.toNat)

/-- R142, which the spec derives from R138 and R139: bulk bits round-trip through a mapping. The bits below the count
come back whenever the mapping is injective there, the others are 0, and with 64 bits RES0 and RES1 are ARG0 and ARG1.
-/
def Obligations.BulkBitsRoundTrip : Prop :=
  ∀ (s : State) (sel : Selector) (mp : Mapping) (count : Byte), s.bvInv → s.bvValid = true →
    selectorMapping sel = some mp → count.toNat ≤ s.bvLen.toNat →
    (∀ i, i < count.toNat → s.mapIndex mp i < s.bvLen.toNat) →
    (∀ i j, i < count.toNat → j < count.toNat → s.mapIndex mp i = s.mapIndex mp j → i = j) →
    ∃ t u, exec (.bvsetbits sel count) s = .next t ∧ exec (.bvgetbits sel count) t = .next u ∧
      (∀ p, p < 64 → (if p < 32 then u.res0.getLsbD p else u.res1.getLsbD (p - 32)) =
        (decide (p < count.toNat) && (if p < 32 then s.arg0.getLsbD p else s.arg1.getLsbD (p - 32)))) ∧
      (count.toNat = 64 → u.res0 = s.arg0 ∧ u.res1 = s.arg1)

/-! ### CRC -/

/-- R163: CRC16 leaves the CRC of its DBUF range in RES0 and 0 in RES1 and changes nothing else; a range past the end
of DBUF fails with RANGE. -/
def Obligations.Crc16ReturnsTheCrc : Prop :=
  ∀ (s : State) (len src : Byte),
    (src.toNat + len.toNat ≤ 256 →
      exec (.crc16 len src) s =
        .next { s with
          res0 := 0#16 ++ crc16 ((List.range len.toNat).map fun j => s.dbufByte (src.toNat + j))
          res1 := 0#32 }.completed) ∧
    (256 < src.toNat + len.toNat → exec (.crc16 len src) s = .next (s.failed .range))

/-- R164: CRC16W stores the CRC of its source, as it was before the write, high byte first at `dst`, puts it in RES0,
and changes nothing else; a source or destination past the end of DBUF fails with RANGE. -/
def Obligations.Crc16wStoresTheCrc : Prop :=
  ∀ (s : State) (len dst src : Byte),
    (src.toNat + len.toNat ≤ 256 → dst.toNat + 2 ≤ 256 →
      ∃ t c, c = crc16 ((List.range len.toNat).map fun j => s.dbufByte (src.toNat + j)) ∧
        exec (.crc16w len dst src) s = .next t ∧
        t.dbufByte dst.toNat = c.extractLsb' 8 8 ∧ t.dbufByte (dst.toNat + 1) = c.extractLsb' 0 8 ∧
        (∀ a, a < dst.toNat ∨ dst.toNat + 2 ≤ a → t.dbufByte a = s.dbufByte a) ∧
        { t with dbuf := s.dbuf } = { s with res0 := 0#16 ++ c, res1 := 0#32 }.completed) ∧
    (256 < src.toNat + len.toNat ∨ 256 < dst.toNat + 2 →
      exec (.crc16w len dst src) s = .next (s.failed .range))

/-- R165: the check value. -/
def Obligations.CrcCheckValue : Prop :=
  crc16 [0x31, 0x32, 0x33, 0x34, 0x35, 0x36, 0x37, 0x38, 0x39] = 0x29B1#16

/-- R166, which the spec derives from R160: the CRC of a message with two bytes appended is zero exactly when they are
its own CRC, high byte first. -/
def Obligations.CrcResidueIsZero : Prop :=
  ∀ (bytes : List Byte) (hi lo : Byte),
    crc16 (bytes ++ [hi, lo]) = 0#16 ↔
      hi = (crc16 bytes).extractLsb' 8 8 ∧ lo = (crc16 bytes).extractLsb' 0 8

/-! ### Galois field

Each statement of this part and of the next that rests on the field says so: `primInv` or `GField.ok`, that PRIM_POLY is
a primitive polynomial of degree m, whichever it is (R171). -/

/-- R174, R176: GFMUL of two elements leaves their product in RES0 and 0 in RES1 and changes nothing else. -/
def Obligations.GfmulReturnsTheProduct : Prop :=
  ∀ (s : State) (m : BitVec 4) (a b : Byte), s.primInv → 3 ≤ m.toNat → m.toNat ≤ 8 → a.toNat < 2 ^ m.toNat →
    b.toNat < 2 ^ m.toNat →
    exec (.gfmul m a b) s =
      .next { s with res0 := 0#24 ++ polyProduct (s.field m.toNat) a b 8, res1 := 0#32 }.completed

/-- R175, R177: GFDIV of an element by a non-zero one leaves in RES0 the element whose product with the divisor is the
dividend, 0 in RES1, and changes nothing else. -/
def Obligations.GfdivReturnsTheQuotient : Prop :=
  ∀ (s : State) (m : BitVec 4) (a b : Byte), s.primInv → 3 ≤ m.toNat → m.toNat ≤ 8 → a.toNat < 2 ^ m.toNat →
    b.toNat < 2 ^ m.toNat → b ≠ 0#8 →
    ∃ q : Byte, q.toNat < 2 ^ m.toNat ∧ gfMul (s.field m.toNat) q b = a ∧
      exec (.gfdiv m a b) s = .next { s with res0 := 0#24 ++ q, res1 := 0#32 }.completed

/-- R172, R178: GFEXP leaves α^e in RES0, which is 1 multiplied by x e times, 0 in RES1, and changes nothing else. -/
def Obligations.GfexpReturnsThePower : Prop :=
  ∀ (s : State) (m : BitVec 4) (e : Byte), s.primInv → 3 ≤ m.toNat → m.toNat ≤ 8 →
    exec (.gfexp m e) s =
      .next { s with res0 := 0#24 ++ timesXPow (s.field m.toNat) e.toNat 1#8, res1 := 0#32 }.completed

/-- R173, R179: GFLOG of a non-zero element leaves in RES0 the exponent below N of which it is the power of α, 0 in
RES1, and changes nothing else. -/
def Obligations.GflogReturnsTheExponent : Prop :=
  ∀ (s : State) (m : BitVec 4) (x : Byte), s.primInv → 3 ≤ m.toNat → m.toNat ≤ 8 → x.toNat < 2 ^ m.toNat →
    x ≠ 0#8 →
    ∃ e : Nat, e < 2 ^ m.toNat - 1 ∧ timesXPow (s.field m.toNat) e 1#8 = x ∧
      exec (.gflog m x) s = .next { s with res0 := BitVec.ofNat 32 e, res1 := 0#32 }.completed

/-- R176 to R179, R256: the errors of the field commands, in their order: the size, then the elements, then zero. -/
def Obligations.GfCommandsFailInOrder : Prop :=
  ∀ (s : State) (m : BitVec 4) (a b e : Byte),
    (m.toNat < 3 ∨ 8 < m.toNat →
      exec (.gfmul m a b) s = .next (s.failed .operand) ∧ exec (.gfdiv m a b) s = .next (s.failed .operand) ∧
      exec (.gfexp m e) s = .next (s.failed .operand) ∧ exec (.gflog m b) s = .next (s.failed .operand)) ∧
    (3 ≤ m.toNat → m.toNat ≤ 8 → 2 ^ m.toNat ≤ a.toNat ∨ 2 ^ m.toNat ≤ b.toNat →
      exec (.gfmul m a b) s = .next (s.failed .operand) ∧ exec (.gfdiv m a b) s = .next (s.failed .operand)) ∧
    (3 ≤ m.toNat → m.toNat ≤ 8 → 2 ^ m.toNat ≤ b.toNat → exec (.gflog m b) s = .next (s.failed .operand)) ∧
    (3 ≤ m.toNat → m.toNat ≤ 8 → a.toNat < 2 ^ m.toNat →
      exec (.gfdiv m a 0#8) s = .next (s.failed .zero) ∧ exec (.gflog m 0#8) s = .next (s.failed .zero))

/-- R172, R173: the antilog table lists the N non-zero elements, each once, the log table inverts it, and the
construction returns to 1 after N steps. -/
def Obligations.GfTablesAreInverse : Prop :=
  ∀ f : GField, f.ok = true →
    (∀ i, i < 2 ^ f.m - 1 → alphaTo f i = timesXPow f i 1#8 ∧ alphaTo f i ≠ 0#8 ∧ (alphaTo f i).toNat < 2 ^ f.m ∧
      indexOf f (alphaTo f i) = i) ∧
    (∀ v : Byte, v ≠ 0#8 → v.toNat < 2 ^ f.m → indexOf f v < 2 ^ f.m - 1 ∧ alphaTo f (indexOf f v) = v) ∧
    timesXPow f (2 ^ f.m - 1) 1#8 = 1#8

/-- R174, in the sentence the spec derives from R172: the product by logs is the product of the polynomials reduced
modulo PRIM_POLY[m]. -/
def Obligations.GfMulIsPolynomialProduct : Prop :=
  ∀ (f : GField) (a b : Byte), f.ok = true → a.toNat < 2 ^ f.m → b.toNat < 2 ^ f.m →
    gfMul f a b = polyProduct f a b 8

/-- R180, which the spec derives from R170 to R175: the laws of the field, and that every result is an element. -/
def Obligations.GfFieldLaws : Prop :=
  ∀ (f : GField) (a b c : Byte), f.ok = true → a.toNat < 2 ^ f.m → b.toNat < 2 ^ f.m → c.toNat < 2 ^ f.m →
    a ^^^ b = b ^^^ a ∧ gfMul f a b = gfMul f b a ∧ gfMul f (gfMul f a b) c = gfMul f a (gfMul f b c) ∧
    gfMul f a (b ^^^ c) = gfMul f a b ^^^ gfMul f a c ∧ gfMul f a 1#8 = a ∧ gfMul f a 0#8 = 0#8 ∧
    (b ≠ 0#8 → gfMul f (gfDiv f a b) b = a) ∧ alphaPow f (2 ^ f.m - 1) = 1#8 ∧
    (a ^^^ b).toNat < 2 ^ f.m ∧ (gfMul f a b).toNat < 2 ^ f.m ∧ (b ≠ 0#8 → (gfDiv f a b).toNat < 2 ^ f.m)

/-! ### Reed-Solomon -/

/-- R191: RSCFG within the constraints sets the configuration; outside them it fails with CFG and clears it. -/
def Obligations.RscfgConfiguresOrClears : Prop :=
  ∀ (s : State) (m k r : Byte),
    (3 ≤ m.toNat → m.toNat ≤ 8 → 1 ≤ r.toNat → r.toNat ≤ 8 → 1 ≤ k.toNat → k.toNat + r.toNat ≤ 2 ^ m.toNat - 1 →
      ∃ size : BitVec 4, size.toNat = m.toNat ∧
        exec (.rscfg m k r) s = .next { s with rsValid := true, rsM := size, rsK := k, rsR := r }.completed) ∧
    (m.toNat < 3 ∨ 8 < m.toNat ∨ r.toNat < 1 ∨ 8 < r.toNat ∨ k.toNat < 1 ∨ 2 ^ m.toNat - 1 < k.toNat + r.toNat →
      exec (.rscfg m k r) s =
        .next ({ s with rsValid := false, rsM := 0#4, rsK := 0#8, rsR := 0#8 }.failed .cfg))

/-- R197: RSENC stores the r parity symbols of the k data symbols at `dst`, and changes no other byte of DBUF and
nothing else. -/
def Obligations.RsencStoresTheParity : Prop :=
  ∀ (s : State) (dst src : Byte), s.rsInv → s.rsValid = true → src.toNat + s.rsK.toNat ≤ 256 →
    dst.toNat + s.rsR.toNat ≤ 256 →
    (∀ j, j < s.rsK.toNat → (s.dbufByte (src.toNat + j)).toNat < 2 ^ s.rsM.toNat) →
    ∃ t, exec (.rsenc dst src) s = .next t ∧
      (List.range s.rsR.toNat).map (fun j => t.dbufByte (dst.toNat + j)) =
        rsParity s.rsField s.rsR.toNat ((List.range s.rsK.toNat).map fun j => s.dbufByte (src.toNat + j)) ∧
      (∀ a, a < dst.toNat ∨ dst.toNat + s.rsR.toNat ≤ a → t.dbufByte a = s.dbufByte a) ∧
      { t with dbuf := s.dbuf } = s.completed

/-- R196: data followed by its parity is a codeword: every root of g is a root of it. -/
def Obligations.RsParityMakesCodewords : Prop :=
  ∀ (f : GField) (k r : Nat) (data : List Byte), f.ok = true → rsConfigOk f.m k r = true → data.length = k →
    (∀ d ∈ data, d.toNat < 2 ^ f.m) →
    (rsParity f r data).length = r ∧ (∀ p ∈ rsParity f r data, p.toNat < 2 ^ f.m) ∧
      isCodeword f r (data ++ rsParity f r data) = true

/-- R206, R207: RSCOR of a block in range completes with the result registers of what the decoder finds. A clean or an
uncorrectable block stays as it is in DBUF; a corrected one is written back whole, and nothing else changes. -/
def Obligations.RscorReportsAndCorrects : Prop :=
  ∀ (s : State) (addr : Byte) (n : Nat) (block : List Byte) (v : RsVerdict), s.rsInv → s.rsValid = true →
    n = s.rsK.toNat + s.rsR.toNat → addr.toNat + n ≤ 256 →
    block = (List.range n).map (fun j => s.dbufByte (addr.toNat + j)) →
    (∀ c ∈ block, c.toNat < 2 ^ s.rsM.toNat) → v = rsDecode s.rsField s.rsR.toNat block →
    ∃ t, exec (.rscor addr) s = .next t ∧
      (∀ a, a < addr.toNat ∨ addr.toNat + n ≤ a → t.dbufByte a = s.dbufByte a) ∧
      { t with dbuf := s.dbuf, res0 := s.res0, res1 := s.res1 } = s.completed ∧
      match v with
      | .clean => t.dbuf = s.dbuf ∧ t.res0 = 0#32 ∧ t.res1 = 0#32
      | .uncorrectable reason len deg =>
        t.dbuf = s.dbuf ∧
          t.res0 = (match reason with
            | .roots => 0x300#32
            | .pad => 0x500#32
            | .forney => 0x700#32) ∧
          t.res1.extractLsb' 0 8 = BitVec.ofNat 8 deg ∧ t.res1.extractLsb' 8 8 = BitVec.ofNat 8 len ∧
          t.res1.extractLsb' 16 16 = 0#16
      | .corrected out len deg =>
        (List.range n).map (fun j => t.dbufByte (addr.toNat + j)) = out ∧
          t.res0.extractLsb' 0 8 = BitVec.ofNat 8 deg ∧ t.res0.extractLsb' 8 24 = 0#24 ∧
          t.res1.extractLsb' 0 8 = BitVec.ofNat 8 deg ∧ t.res1.extractLsb' 8 8 = BitVec.ofNat 8 len ∧
          t.res1.extractLsb' 16 16 = 0#16

/-- R208, the decoding theorem the spec takes from general knowledge: a block that differs from a codeword in at most
half as many symbols as there are parity symbols is restored, and RSCOR reports how many it corrected. -/
def Obligations.RscorCorrectsUpToCapacity : Prop :=
  ∀ (s : State) (addr : Byte) (n : Nat) (block code : List Byte), s.primInv → s.rsInv →
    s.rsValid = true → n = s.rsK.toNat + s.rsR.toNat → addr.toNat + n ≤ 256 →
    block = (List.range n).map (fun j => s.dbufByte (addr.toNat + j)) →
    (∀ c ∈ block, c.toNat < 2 ^ s.rsM.toNat) → code.length = n → (∀ c ∈ code, c.toNat < 2 ^ s.rsM.toNat) →
    isCodeword s.rsField s.rsR.toNat code = true → distance block code ≤ s.rsR.toNat / 2 →
    ∃ t, exec (.rscor addr) s = .next t ∧
      (List.range n).map (fun j => t.dbufByte (addr.toNat + j)) = code ∧
      t.res0 = BitVec.ofNat 32 (distance block code) ∧ t.err = false

/-- R210, which the spec derives from R198 to R206 and leaves to a model to prove: whenever RSCOR ends with FAIL = 0,
the block in DBUF is a codeword. -/
def Obligations.RscorSuccessLeavesACodeword : Prop :=
  ∀ (s t : State) (addr : Byte), s.primInv → s.rsInv → exec (.rscor addr) s = .next t → t.err = false →
    t.res0.getLsbD 8 = false →
    isCodeword s.rsField s.rsR.toNat
      ((List.range (s.rsK.toNat + s.rsR.toNat)).map fun j => t.dbufByte (addr.toNat + j)) = true

/-- R202, item 3, in the sentence the spec derives: the FORNEY outcome never occurs. -/
def Obligations.RscorNeverEndsAsForney : Prop :=
  ∀ (f : GField) (k r len deg : Nat) (block : List Byte), f.ok = true → rsConfigOk f.m k r = true →
    block.length = k + r → (∀ c ∈ block, c.toNat < 2 ^ f.m) → rsDecode f r block ≠ .uncorrectable .forney len deg

/-- R192, R197, R206, R256: the errors of RSENC and RSCOR, in their order: NOCFG, RANGE, OPERAND. -/
def Obligations.RsCommandsFailInOrder : Prop :=
  ∀ (s : State) (dst src : Byte),
    (s.rsValid = false →
      exec (.rsenc dst src) s = .next (s.failed .nocfg) ∧ exec (.rscor src) s = .next (s.failed .nocfg)) ∧
    (s.rsValid = true → 256 < src.toNat + s.rsK.toNat ∨ 256 < dst.toNat + s.rsR.toNat →
      exec (.rsenc dst src) s = .next (s.failed .range)) ∧
    (s.rsValid = true → 256 < src.toNat + (s.rsK.toNat + s.rsR.toNat) →
      exec (.rscor src) s = .next (s.failed .range)) ∧
    (s.rsValid = true → src.toNat + s.rsK.toNat ≤ 256 → dst.toNat + s.rsR.toNat ≤ 256 →
      (∃ j, j < s.rsK.toNat ∧ 2 ^ s.rsM.toNat ≤ (s.dbufByte (src.toNat + j)).toNat) →
      exec (.rsenc dst src) s = .next (s.failed .operand)) ∧
    (s.rsValid = true → src.toNat + (s.rsK.toNat + s.rsR.toNat) ≤ 256 →
      (∃ j, j < s.rsK.toNat + s.rsR.toNat ∧ 2 ^ s.rsM.toNat ≤ (s.dbufByte (src.toNat + j)).toNat) →
      exec (.rscor src) s = .next (s.failed .operand))

/-! ### Outcomes -/

/-- R122, R250: the engine's step always ends the command, whatever word is in flight, with exactly one outcome. -/
def Obligations.EveryCommandEndsWithOneOutcome : Prop :=
  ∀ s : State, s.engineTurn = true → ∃ t, step s = .next t ∧ t.busy = false ∧ t.done = true ∧
    ((t.err = false ∧ t.noop = false ∧ t.errcode = none) ∨ (t.err = false ∧ t.noop = true ∧ t.errcode = none) ∨
      (t.err = true ∧ t.noop = false ∧ t.errcode ≠ none))

/-- R252: a failing command changes STATUS alone, but for the configuration that a failing BVCFG or RSCFG discards. -/
def Obligations.FailingCommandChangesOnlyStatus : Prop :=
  ∀ (s t : State) (e : CmdError), s.engineTurn = true → step s = .next t → t.errcode = some e →
    t = match decode s.cmdl with
      | .ok (.bvcfg _) => { s with bv := 0#64, bvValid := false, bvLen := 0#7 }.failed e
      | .ok (.rscfg _ _ _) => { s with rsValid := false, rsM := 0#4, rsK := 0#8, rsR := 0#8 }.failed e
      | .ok _ => s.failed e
      | .error _ => s.failed e

/-- R257: each command ends only with the error codes its row of the table lists. -/
def Obligations.ErrorsAreThoseTabled : Prop :=
  ∀ (s t : State) (i : Instr) (e : CmdError), exec i s = .next t → t.errcode = some e → e ∈ allowedErrors i

/-- R15, R27 to R30, R32, R33, R35: each piece of state is written only by the commands the spec names for it, and
PRIM_POLY, which is configuration, by no step of either agent. -/
def Obligations.StateIsWrittenOnlyByItsCommands : Prop :=
  (∀ s t : State, step s = .next t → t.prim = s.prim) ∧
  ∀ (s t : State) (i : Instr), exec i s = .next t →
    t.prim = s.prim ∧ t.ie = s.ie ∧ t.ovr = s.ovr ∧ t.cmdl = s.cmdl ∧ t.arg0 = s.arg0 ∧ t.arg1 = s.arg1 ∧ t.mapram = s.mapram ∧
    t.epoch = s.epoch ∧ t.draws = s.draws ∧ t.delay = s.delay ∧ t.inputs = s.inputs ∧ t.hostData = s.hostData ∧
    ((∀ m k r, i ≠ .rscfg m k r) → t.rsValid = s.rsValid ∧ t.rsM = s.rsM ∧ t.rsK = s.rsK ∧ t.rsR = s.rsR) ∧
    ((∀ n, i ≠ .bvcfg n) → t.bvValid = s.bvValid ∧ t.bvLen = s.bvLen) ∧
    ((∀ n, i ≠ .bvcfg n) → (∀ v x, i ≠ .bvsetbit v x) → (∀ sel c, i ≠ .bvsetbits sel c) →
      (∀ c a, i ≠ .bvsetbytes c a) → t.bv = s.bv) ∧
    ((∀ c a, i ≠ .bvgetbytes c a) → (∀ l d a, i ≠ .crc16w l d a) → (∀ d a, i ≠ .rsenc d a) →
      (∀ a, i ≠ .rscor a) → t.dbuf = s.dbuf) ∧
    ((∀ x, i ≠ .bvgetbit x) → (∀ sel c, i ≠ .bvgetbits sel c) → (∀ l a, i ≠ .crc16 l a) →
      (∀ l d a, i ≠ .crc16w l d a) → (∀ m a b, i ≠ .gfmul m a b) → (∀ m a b, i ≠ .gfdiv m a b) →
      (∀ m e, i ≠ .gfexp m e) → (∀ m x, i ≠ .gflog m x) → (∀ a, i ≠ .rscor a) →
      t.res0 = s.res0 ∧ t.res1 = s.res1)

/-! ### The window -/

/-- R120: a CMD write while BUSY = 0 is accepted, DONE or not. -/
def Obligations.CmdWriteWhileIdleIsAccepted : Prop :=
  ∀ (s : State) (w : Word) (rest : List HostAction), s.busy = false → s.inputs = .write .word 0x00C#32 w :: rest →
    ∃ t, step s = .next t ∧
      { t with delay := s.delay, draws := s.draws } =
        { s with
          inputs := rest, cmdl := w, done := false, err := false, noop := false, errcode := none, busy := true }

/-- R24, R25, R27: a write to an idle core's ARG0 or ARG1 is stored whole; one to STATUS clears DONE and OVR where it
has a 1 and nothing else; one to CTRL without SRST sets IE and nothing else. -/
def Obligations.IdleWritesReachTheirRegisters : Prop :=
  ∀ (s : State) (offset data : Word) (rest : List HostAction), s.busy = false →
    s.inputs = .write .word offset data :: rest →
    (offset = 0x010#32 →
      ∃ t, step s = .next t ∧ { t with delay := s.delay } = { s with inputs := rest, arg0 := data }) ∧
    (offset = 0x014#32 →
      ∃ t, step s = .next t ∧ { t with delay := s.delay } = { s with inputs := rest, arg1 := data }) ∧
    (offset = 0x008#32 →
      ∃ t, step s = .next t ∧ { t with delay := s.delay } =
        { s with inputs := rest, done := s.done && !data.getLsbD 1, ovr := s.ovr && !data.getLsbD 4 }) ∧
    (offset = 0x004#32 → data.getLsbD 1 = false →
      ∃ t, step s = .next t ∧ { t with delay := s.delay } = { s with inputs := rest, ie := data.getLsbD 0 })

/-- R34, R121, R286: while BUSY = 1 a write to an operand location is dropped and sets OVR; CTRL and STATUS writes are
accepted as usual; writes to read-only and reserved locations are ignored and set nothing, busy or not. -/
def Obligations.WritesWhileBusyAreDropped : Prop :=
  ∀ (s : State) (offset data : Word) (rest : List HostAction), s.engineTurn = false →
    s.inputs = .write .word offset data :: rest → offset.toNat % 4 = 0 → offset.toNat < 0x1000 →
    (s.busy = true →
      (offset.toNat ∈ [0x00C, 0x010, 0x014] ∨ (0x100 ≤ offset.toNat ∧ offset.toNat < 0x240)) →
      ∃ t, step s = .next t ∧ { t with delay := s.delay } = { s with inputs := rest, ovr := true }) ∧
    (s.busy = true → offset = 0x004#32 → data.getLsbD 1 = false →
      ∃ t, step s = .next t ∧ { t with delay := s.delay } = { s with inputs := rest, ie := data.getLsbD 0 }) ∧
    (s.busy = true → offset = 0x004#32 → data.getLsbD 1 = true →
      ∃ t, step s = .next t ∧ t.busy = false ∧ t.done = false ∧ t.ie = data.getLsbD 0) ∧
    (s.busy = true → offset = 0x008#32 →
      ∃ t, step s = .next t ∧ { t with delay := s.delay } =
        { s with inputs := rest, done := s.done && !data.getLsbD 1, ovr := s.ovr && !data.getLsbD 4 }) ∧
    ((offset = 0x000#32 ∨ (0x018 ≤ offset.toNat ∧ offset.toNat < 0x100) ∨ 0x240 ≤ offset.toNat) →
      ∃ t, step s = .next t ∧ { t with delay := s.delay } = { s with inputs := rest })

/-- R22 to R34: what stands at each word of the window, and what each location reads as. -/
def Obligations.RegisterViewsAreAsLaidOut : Prop :=
  (locate 0x000 = .id ∧ locate 0x004 = .ctrl ∧ locate 0x008 = .status ∧ locate 0x00C = .cmd ∧ locate 0x010 = .arg0 ∧
    locate 0x014 = .arg1 ∧ locate 0x018 = .res0 ∧ locate 0x01C = .res1 ∧ locate 0x020 = .rscfgr ∧
    locate 0x024 = .bvcfgr ∧ locate 0x028 = .bvd0 ∧ locate 0x02C = .bvd1) ∧
  (∀ w, w < 64 → locate (0x100 + 4 * w) = .dbuf (4 * w)) ∧
  (∀ w, w < 16 → locate (0x200 + 4 * w) = .mapram (4 * w)) ∧
  (∀ offset, offset % 4 = 0 → (0x030 ≤ offset ∧ offset ≤ 0x0FC) ∨ (0x240 ≤ offset ∧ offset ≤ 0xFFC) →
    locate offset = .reserved) ∧
  ∀ s : State,
    s.view .id = 0x52544301#32 ∧ s.view .cmd = s.cmdl ∧ s.view .arg0 = s.arg0 ∧ s.view .arg1 = s.arg1 ∧
    s.view .res0 = s.res0 ∧ s.view .res1 = s.res1 ∧ s.view .reserved = 0#32 ∧
    s.view .ctrl = (if s.ie then 1#32 else 0#32) ∧
    (s.view .status).getLsbD 0 = s.busy ∧ (s.view .status).getLsbD 1 = s.done ∧
    (s.view .status).getLsbD 2 = s.err ∧ (s.view .status).getLsbD 3 = s.noop ∧
    (s.view .status).getLsbD 4 = s.ovr ∧ (s.view .status).extractLsb' 5 3 = 0#3 ∧
    (s.view .status).extractLsb' 8 4 = errcodeBits s.errcode ∧ (s.view .status).extractLsb' 12 20 = 0#20 ∧
    (s.view .rscfgr).extractLsb' 0 4 = s.rsM ∧ (s.view .rscfgr).extractLsb' 4 4 = 0#4 ∧
    (s.view .rscfgr).extractLsb' 8 8 = s.rsK ∧ (s.view .rscfgr).extractLsb' 16 8 = s.rsR ∧
    (s.view .rscfgr).extractLsb' 24 7 = 0#7 ∧ (s.view .rscfgr).getLsbD 31 = s.rsValid ∧
    (s.view .bvcfgr).extractLsb' 0 7 = s.bvLen ∧ (s.view .bvcfgr).extractLsb' 7 24 = 0#24 ∧
    (s.view .bvcfgr).getLsbD 31 = s.bvValid ∧
    (∀ p, p < 64 → s.bv.getLsbD p = (if p < 32 then (s.view .bvd0).getLsbD p else (s.view .bvd1).getLsbD (p - 32))) ∧
    (∀ a j, j < 4 → (s.view (.dbuf a)).extractLsb' (8 * j) 8 = s.dbufByte (a + j)) ∧
    ∀ i j, j < 4 → (s.view (.mapram i)).extractLsb' (8 * j) 8 = (s.mapEntry (i + j)).setWidth 8

/-- R67, R285: a read changes nothing of the core, busy or not. It returns the location's value, but for the locations
a command may write while BUSY = 1, where it returns a fresh draw; the counter of draws is the model's
(notes/assumptions/4.md). -/
def Obligations.ReadsHaveNoSideEffects : Prop :=
  ∀ (s : State) (offset : Word) (rest : List HostAction), s.engineTurn = false →
    s.inputs = .read .word offset :: rest → offset.toNat % 4 = 0 → offset.toNat < 0x1000 →
    ∃ t, step s = .next t ∧
      { t with inputs := s.inputs, delay := s.delay, draws := s.draws, hostData := s.hostData } = s ∧
      t.inputs = rest ∧
      if s.busy = true ∧ ((0x018 ≤ offset.toNat ∧ offset.toNat ≤ 0x02C) ∨
          (0x100 ≤ offset.toNat ∧ offset.toNat < 0x200)) then
        t.hostData = Config.busyRead s.draws ∧ t.draws = s.draws + 1
      else t.hostData = s.view (locate offset.toNat) ∧ t.draws = s.draws

/-- R62, R64: when the host of an idle core writes a word to the DBUF or MAPRAM window, the step puts it into its four
lanes, lowest address first, and changes nothing else of the core; bits 7:6 of a MAPRAM lane are ignored. -/
def Obligations.WindowWordsLandInTheirLanes : Prop :=
  ∀ (s : State) (data : Word) (w : Nat) (rest : List HostAction), s.busy = false →
    (w < 64 → s.inputs = .write .word (BitVec.ofNat 32 (0x100 + 4 * w)) data :: rest →
      ∃ t, step s = .next t ∧
        (∀ j, j < 4 → t.dbufByte (4 * w + j) = data.extractLsb' (8 * j) 8) ∧
        (∀ a, a < 4 * w ∨ 4 * w + 4 ≤ a → t.dbufByte a = s.dbufByte a) ∧
        { t with dbuf := s.dbuf, delay := s.delay } = { s with inputs := rest } ∧
        t.view (locate (0x100 + 4 * w)) = data) ∧
    (w < 16 → s.inputs = .write .word (BitVec.ofNat 32 (0x200 + 4 * w)) data :: rest →
      ∃ t, step s = .next t ∧
        (∀ j, j < 4 → t.mapEntry (4 * w + j) = data.extractLsb' (8 * j) 6) ∧
        (∀ i, i < 4 * w ∨ 4 * w + 4 ≤ i → t.mapEntry i = s.mapEntry i) ∧
        { t with mapram := s.mapram, delay := s.delay } = { s with inputs := rest } ∧
        t.view (locate (0x200 + 4 * w)) = data &&& 0x3F3F3F3F#32)

/-- R61: an access to the window that is not an aligned 32-bit word is a fault of the host's step. R68 says that what
lies outside the window is the platform's; that the step is then refused is the model's choice
(notes/assumptions/7.md). -/
def Obligations.UnsupportedAccessesStopTheHost : Prop :=
  ∀ (s : State) (width : AccessWidth) (offset data : Word) (rest : List HostAction), s.engineTurn = false →
    s.inputs = .read width offset :: rest ∨ s.inputs = .write width offset data :: rest →
    (offset.toNat < 0x1000 → width ≠ .word ∨ offset.toNat % 4 ≠ 0 →
      step s = .fault (.unsupportedHostAccess Config.subwordResponse)) ∧
    (0x1000 ≤ offset.toNat → step s = .refused .outsideWindow)

/-- R258, R259: the interrupt is IE AND DONE. It takes IE's value when a command ends, whatever the outcome; it falls
only by an acknowledge, a new command, IE cleared or a reset, and rises otherwise only by setting IE while DONE = 1.
-/
def Obligations.InterruptRisesAndFallsAsStated : Prop :=
  (∀ s : State, s.irq = (s.ie && s.done)) ∧
  (∀ s t : State, s.engineTurn = true → step s = .next t → t.irq = s.ie) ∧
  (∀ s t : State, step s = .next t → s.irq = true → t.irq = false →
    (∃ rest, s.inputs = .powerOnReset :: rest) ∨
    ∃ offset data rest, s.inputs = .write .word offset data :: rest ∧
      ((offset = 0x008#32 ∧ data.getLsbD 1 = true) ∨ (offset = 0x00C#32 ∧ s.busy = false) ∨
        (offset = 0x004#32 ∧ (data.getLsbD 1 = true ∨ data.getLsbD 0 = false)))) ∧
  (∀ s t : State, step s = .next t → s.irq = false → t.irq = true →
    s.engineTurn = true ∨
    ∃ data rest, s.inputs = .write .word 0x004#32 data :: rest ∧ data.getLsbD 1 = false ∧ data.getLsbD 0 = true ∧
      s.done = true)

/-! ### Reset -/

/-- R41, R281: after power-on reset every register reads 0 but ID, nothing is in flight and no interrupt stands; the
platform's reset input leads there from every state, with PRIM_POLY as it is and power-on contents that do not depend
on what was written. The numbering of the draws by `epoch` is the model's (notes/assumptions/2.md, 12.md). -/
def Obligations.PowerOnResetClearsEveryRegister : Prop :=
  (∀ loc ∈ [Location.ctrl, .status, .cmd, .arg0, .arg1, .res0, .res1, .rscfgr, .bvcfgr, .bvd0, .bvd1, .reserved],
    State.reset.view loc = 0#32) ∧
  State.reset.view .id = 0x52544301#32 ∧ State.reset.busy = false ∧ State.reset.irq = false ∧
  (∀ a, State.reset.dbufByte a = Config.powerOnByte 0 a) ∧
  (∀ i, State.reset.mapEntry i = Config.powerOnMapEntry 0 i) ∧
  ∀ (s : State) (rest : List HostAction), s.engineTurn = false → s.inputs = .powerOnReset :: rest →
    ∃ t, step s = .next t ∧ t.coreState = { State.reset with prim := s.prim, epoch := s.epoch + 1 } ∧ t.inputs = rest ∧
      ∀ a, t.dbufByte a = Config.powerOnByte (s.epoch + 1) a

/-- R24, R282: a CTRL write with SRST = 1 resets every register and configuration within that access and leaves the
written IE; MAPRAM is preserved, and DBUF too unless a command was in flight. SRST reads 0 and no interrupt stands. -/
def Obligations.SoftResetClearsTheUnits : Prop :=
  ∀ (s : State) (data : Word) (rest : List HostAction), s.engineTurn = false →
    s.inputs = .write .word 0x004#32 data :: rest → data.getLsbD 1 = true →
    ∃ t, step s = .next t ∧
      { t with dbuf := s.dbuf, delay := s.delay, draws := s.draws } =
        { State.reset with
          ie := data.getLsbD 0, dbuf := s.dbuf, mapram := s.mapram, prim := s.prim, epoch := s.epoch
          delay := s.delay, draws := s.draws, inputs := rest, hostData := s.hostData } ∧
      (s.busy = false → t.dbuf = s.dbuf) ∧ (t.view .ctrl).getLsbD 1 = false ∧ t.irq = false

/-- R283: a soft reset while a command is in flight abandons it. DONE is not set, and of DBUF only the bytes the
command could write are lost: they take free values. Everything else is reset as by any soft reset. The draw is the
model's form (notes/assumptions/9.md). -/
def Obligations.SoftResetAbandonsTheCommand : Prop :=
  ∀ (s : State) (data : Word) (rest : List HostAction), s.engineTurn = false → s.busy = true →
    s.inputs = .write .word 0x004#32 data :: rest → data.getLsbD 1 = true →
    ∃ t, step s = .next t ∧ t.busy = false ∧ t.done = false ∧ t.mapram = s.mapram ∧
      { t with dbuf := s.dbuf, delay := s.delay, draws := s.draws } =
        { State.reset with
          ie := data.getLsbD 0, dbuf := s.dbuf, mapram := s.mapram, prim := s.prim, epoch := s.epoch
          delay := s.delay, draws := s.draws, inputs := rest, hostData := s.hostData } ∧
      ∀ a, a < 256 → t.dbufByte a =
        let touched : Bool := match decode s.cmdl with
          | .ok (.crc16w _ dst _) => decide (dst.toNat ≤ a ∧ a < dst.toNat + 2)
          | .ok (.bvgetbytes count dst) => decide (dst.toNat ≤ a ∧ a < dst.toNat + count.toNat)
          | .ok (.rsenc dst _) => decide (dst.toNat ≤ a ∧ a < dst.toNat + s.rsR.toNat)
          | .ok (.rscor addr) => decide (addr.toNat ≤ a ∧ a < addr.toNat + (s.rsK.toNat + s.rsR.toNat))
          | .ok _ => false
          | .error _ => false
        if touched then Config.abandonedByte s.draws a else s.dbufByte a

/-! ### The invariant -/

/-- R25, R35, R36, R60, R171: every step of either agent keeps the invariant of the core. -/
def Obligations.EveryStepKeepsTheInvariant : Prop :=
  ∀ s t : State, s.Inv → step s = .next t → t.Inv

/-- R41, R281: the invariant holds after power-on reset. -/
def Obligations.ResetMeetsTheInvariant : Prop := State.reset.Inv

/-! ### Whole transactions -/

/-- R71, R101, R288: `ISSUE`, a CMD write to an idle core and WAIT, ends after finitely many steps, with the command's
effects, DONE and nothing else done to the core. The host's list is the model's form (notes/assumptions/1.md, 10.md).
-/
def Obligations.IssueAndWaitComplete : Prop :=
  ∀ (s : State) (w : Word) (rest : List HostAction), s.busy = false →
    s.inputs = .write .word 0x00C#32 w :: .wait :: rest →
    ∃ (k : Nat) (t : State), Host.Core.run Sys2Proof.core k s = .next t ∧ t.busy = false ∧ t.done = true ∧
      t.inputs = rest ∧ t.coreState = (s.issue w).coreState

/-- R232: the payload commands leave the payload block of the id at DBUF[0..7], from any idle state. -/
def Obligations.PayloadCommandsBuildThePayload : Prop :=
  ∀ (s : State) (id : BitVec 16), s.busy = false →
    ∃ t, encodePayload s id = some t ∧ (List.range 8).map t.dbufByte = payload s.prim id

/-- R234 to R238, in the sentences the spec derives. Take the noise-free samples of an id packed through a rotation's
table, the rows of PERM being permutations by their type (notes/assumptions/5.md). In that rotation's trial they give
the candidate of that rotation and id. The whole decode returns success with that id, rotation and reordered corners
if the premise of R238 on PERM holds of them, that no other trial finds a candidate, and fails otherwise. -/
def Obligations.DecodeReturnsItsOwnTag : Prop :=
  ∀ (α : Type) (s : State) (id : BitVec 16) (rot : Rotation) (samples : List Byte) (bits : BitVec 64)
    (corners : Fin 4 → α), s.primInv → s.busy = false → sampleBits samples = some bits →
    (∀ i, i < 64 → bits.getLsbD i =
      (packBytes (payload s.prim id)).getLsbD (Config.perm rot (BitVec.ofNat 6 i)).toNat) →
    (∃ s1 s2, decodeSetup s bits = some s1 ∧ orientationTrial s1 rot = some (s2, some (rot, id))) ∧
    decodeTag s samples corners =
      if trialsSeparate s.prim Config.perm bits rot then .success id rot (reorderCorners rot corners) else .failure
end

