-- ==== Sys2Proof/Laws/State.lean ====
section
/-! SUPPORT. One lemma for each field of State and each named update, so that no later proof unfolds a record update. -/

namespace Sys2Proof.Machine

variable (s : State)

/-! ### setResult -/

@[simp] theorem State.setResult_ie (r0 r1 : Word) : (s.setResult r0 r1).ie = s.ie := rfl
@[simp] theorem State.setResult_busy (r0 r1 : Word) : (s.setResult r0 r1).busy = s.busy := rfl
@[simp] theorem State.setResult_done (r0 r1 : Word) : (s.setResult r0 r1).done = s.done := rfl
@[simp] theorem State.setResult_err (r0 r1 : Word) : (s.setResult r0 r1).err = s.err := rfl
@[simp] theorem State.setResult_noop (r0 r1 : Word) : (s.setResult r0 r1).noop = s.noop := rfl
@[simp] theorem State.setResult_ovr (r0 r1 : Word) : (s.setResult r0 r1).ovr = s.ovr := rfl
@[simp] theorem State.setResult_errcode (r0 r1 : Word) : (s.setResult r0 r1).errcode = s.errcode := rfl
@[simp] theorem State.setResult_cmdl (r0 r1 : Word) : (s.setResult r0 r1).cmdl = s.cmdl := rfl
@[simp] theorem State.setResult_arg0 (r0 r1 : Word) : (s.setResult r0 r1).arg0 = s.arg0 := rfl
@[simp] theorem State.setResult_arg1 (r0 r1 : Word) : (s.setResult r0 r1).arg1 = s.arg1 := rfl
@[simp] theorem State.setResult_res0 (r0 r1 : Word) : (s.setResult r0 r1).res0 = r0 := rfl
@[simp] theorem State.setResult_res1 (r0 r1 : Word) : (s.setResult r0 r1).res1 = r1 := rfl
@[simp] theorem State.setResult_rsValid (r0 r1 : Word) : (s.setResult r0 r1).rsValid = s.rsValid := rfl
@[simp] theorem State.setResult_rsM (r0 r1 : Word) : (s.setResult r0 r1).rsM = s.rsM := rfl
@[simp] theorem State.setResult_rsK (r0 r1 : Word) : (s.setResult r0 r1).rsK = s.rsK := rfl
@[simp] theorem State.setResult_rsR (r0 r1 : Word) : (s.setResult r0 r1).rsR = s.rsR := rfl
@[simp] theorem State.setResult_bvValid (r0 r1 : Word) : (s.setResult r0 r1).bvValid = s.bvValid := rfl
@[simp] theorem State.setResult_bvLen (r0 r1 : Word) : (s.setResult r0 r1).bvLen = s.bvLen := rfl
@[simp] theorem State.setResult_bv (r0 r1 : Word) : (s.setResult r0 r1).bv = s.bv := rfl
@[simp] theorem State.setResult_dbuf (r0 r1 : Word) : (s.setResult r0 r1).dbuf = s.dbuf := rfl
@[simp] theorem State.setResult_mapram (r0 r1 : Word) : (s.setResult r0 r1).mapram = s.mapram := rfl
@[simp] theorem State.setResult_prim (r0 r1 : Word) : (s.setResult r0 r1).prim = s.prim := rfl
@[simp] theorem State.setResult_epoch (r0 r1 : Word) : (s.setResult r0 r1).epoch = s.epoch := rfl
@[simp] theorem State.setResult_draws (r0 r1 : Word) : (s.setResult r0 r1).draws = s.draws := rfl
@[simp] theorem State.setResult_delay (r0 r1 : Word) : (s.setResult r0 r1).delay = s.delay := rfl
@[simp] theorem State.setResult_inputs (r0 r1 : Word) : (s.setResult r0 r1).inputs = s.inputs := rfl
@[simp] theorem State.setResult_hostData (r0 r1 : Word) : (s.setResult r0 r1).hostData = s.hostData := rfl

/-! ### setArg0 -/

@[simp] theorem State.setArg0_ie (data : Word) : (s.setArg0 data).ie = s.ie := rfl
@[simp] theorem State.setArg0_busy (data : Word) : (s.setArg0 data).busy = s.busy := rfl
@[simp] theorem State.setArg0_done (data : Word) : (s.setArg0 data).done = s.done := rfl
@[simp] theorem State.setArg0_err (data : Word) : (s.setArg0 data).err = s.err := rfl
@[simp] theorem State.setArg0_noop (data : Word) : (s.setArg0 data).noop = s.noop := rfl
@[simp] theorem State.setArg0_ovr (data : Word) : (s.setArg0 data).ovr = s.ovr := rfl
@[simp] theorem State.setArg0_errcode (data : Word) : (s.setArg0 data).errcode = s.errcode := rfl
@[simp] theorem State.setArg0_cmdl (data : Word) : (s.setArg0 data).cmdl = s.cmdl := rfl
@[simp] theorem State.setArg0_arg0 (data : Word) : (s.setArg0 data).arg0 = data := rfl
@[simp] theorem State.setArg0_arg1 (data : Word) : (s.setArg0 data).arg1 = s.arg1 := rfl
@[simp] theorem State.setArg0_res0 (data : Word) : (s.setArg0 data).res0 = s.res0 := rfl
@[simp] theorem State.setArg0_res1 (data : Word) : (s.setArg0 data).res1 = s.res1 := rfl
@[simp] theorem State.setArg0_rsValid (data : Word) : (s.setArg0 data).rsValid = s.rsValid := rfl
@[simp] theorem State.setArg0_rsM (data : Word) : (s.setArg0 data).rsM = s.rsM := rfl
@[simp] theorem State.setArg0_rsK (data : Word) : (s.setArg0 data).rsK = s.rsK := rfl
@[simp] theorem State.setArg0_rsR (data : Word) : (s.setArg0 data).rsR = s.rsR := rfl
@[simp] theorem State.setArg0_bvValid (data : Word) : (s.setArg0 data).bvValid = s.bvValid := rfl
@[simp] theorem State.setArg0_bvLen (data : Word) : (s.setArg0 data).bvLen = s.bvLen := rfl
@[simp] theorem State.setArg0_bv (data : Word) : (s.setArg0 data).bv = s.bv := rfl
@[simp] theorem State.setArg0_dbuf (data : Word) : (s.setArg0 data).dbuf = s.dbuf := rfl
@[simp] theorem State.setArg0_mapram (data : Word) : (s.setArg0 data).mapram = s.mapram := rfl
@[simp] theorem State.setArg0_prim (data : Word) : (s.setArg0 data).prim = s.prim := rfl
@[simp] theorem State.setArg0_epoch (data : Word) : (s.setArg0 data).epoch = s.epoch := rfl
@[simp] theorem State.setArg0_draws (data : Word) : (s.setArg0 data).draws = s.draws := rfl
@[simp] theorem State.setArg0_delay (data : Word) : (s.setArg0 data).delay = s.delay := rfl
@[simp] theorem State.setArg0_inputs (data : Word) : (s.setArg0 data).inputs = s.inputs := rfl
@[simp] theorem State.setArg0_hostData (data : Word) : (s.setArg0 data).hostData = s.hostData := rfl

/-! ### setArg1 -/

@[simp] theorem State.setArg1_ie (data : Word) : (s.setArg1 data).ie = s.ie := rfl
@[simp] theorem State.setArg1_busy (data : Word) : (s.setArg1 data).busy = s.busy := rfl
@[simp] theorem State.setArg1_done (data : Word) : (s.setArg1 data).done = s.done := rfl
@[simp] theorem State.setArg1_err (data : Word) : (s.setArg1 data).err = s.err := rfl
@[simp] theorem State.setArg1_noop (data : Word) : (s.setArg1 data).noop = s.noop := rfl
@[simp] theorem State.setArg1_ovr (data : Word) : (s.setArg1 data).ovr = s.ovr := rfl
@[simp] theorem State.setArg1_errcode (data : Word) : (s.setArg1 data).errcode = s.errcode := rfl
@[simp] theorem State.setArg1_cmdl (data : Word) : (s.setArg1 data).cmdl = s.cmdl := rfl
@[simp] theorem State.setArg1_arg0 (data : Word) : (s.setArg1 data).arg0 = s.arg0 := rfl
@[simp] theorem State.setArg1_arg1 (data : Word) : (s.setArg1 data).arg1 = data := rfl
@[simp] theorem State.setArg1_res0 (data : Word) : (s.setArg1 data).res0 = s.res0 := rfl
@[simp] theorem State.setArg1_res1 (data : Word) : (s.setArg1 data).res1 = s.res1 := rfl
@[simp] theorem State.setArg1_rsValid (data : Word) : (s.setArg1 data).rsValid = s.rsValid := rfl
@[simp] theorem State.setArg1_rsM (data : Word) : (s.setArg1 data).rsM = s.rsM := rfl
@[simp] theorem State.setArg1_rsK (data : Word) : (s.setArg1 data).rsK = s.rsK := rfl
@[simp] theorem State.setArg1_rsR (data : Word) : (s.setArg1 data).rsR = s.rsR := rfl
@[simp] theorem State.setArg1_bvValid (data : Word) : (s.setArg1 data).bvValid = s.bvValid := rfl
@[simp] theorem State.setArg1_bvLen (data : Word) : (s.setArg1 data).bvLen = s.bvLen := rfl
@[simp] theorem State.setArg1_bv (data : Word) : (s.setArg1 data).bv = s.bv := rfl
@[simp] theorem State.setArg1_dbuf (data : Word) : (s.setArg1 data).dbuf = s.dbuf := rfl
@[simp] theorem State.setArg1_mapram (data : Word) : (s.setArg1 data).mapram = s.mapram := rfl
@[simp] theorem State.setArg1_prim (data : Word) : (s.setArg1 data).prim = s.prim := rfl
@[simp] theorem State.setArg1_epoch (data : Word) : (s.setArg1 data).epoch = s.epoch := rfl
@[simp] theorem State.setArg1_draws (data : Word) : (s.setArg1 data).draws = s.draws := rfl
@[simp] theorem State.setArg1_delay (data : Word) : (s.setArg1 data).delay = s.delay := rfl
@[simp] theorem State.setArg1_inputs (data : Word) : (s.setArg1 data).inputs = s.inputs := rfl
@[simp] theorem State.setArg1_hostData (data : Word) : (s.setArg1 data).hostData = s.hostData := rfl

/-! ### setIe -/

@[simp] theorem State.setIe_ie (b : Bool) : (s.setIe b).ie = b := rfl
@[simp] theorem State.setIe_busy (b : Bool) : (s.setIe b).busy = s.busy := rfl
@[simp] theorem State.setIe_done (b : Bool) : (s.setIe b).done = s.done := rfl
@[simp] theorem State.setIe_err (b : Bool) : (s.setIe b).err = s.err := rfl
@[simp] theorem State.setIe_noop (b : Bool) : (s.setIe b).noop = s.noop := rfl
@[simp] theorem State.setIe_ovr (b : Bool) : (s.setIe b).ovr = s.ovr := rfl
@[simp] theorem State.setIe_errcode (b : Bool) : (s.setIe b).errcode = s.errcode := rfl
@[simp] theorem State.setIe_cmdl (b : Bool) : (s.setIe b).cmdl = s.cmdl := rfl
@[simp] theorem State.setIe_arg0 (b : Bool) : (s.setIe b).arg0 = s.arg0 := rfl
@[simp] theorem State.setIe_arg1 (b : Bool) : (s.setIe b).arg1 = s.arg1 := rfl
@[simp] theorem State.setIe_res0 (b : Bool) : (s.setIe b).res0 = s.res0 := rfl
@[simp] theorem State.setIe_res1 (b : Bool) : (s.setIe b).res1 = s.res1 := rfl
@[simp] theorem State.setIe_rsValid (b : Bool) : (s.setIe b).rsValid = s.rsValid := rfl
@[simp] theorem State.setIe_rsM (b : Bool) : (s.setIe b).rsM = s.rsM := rfl
@[simp] theorem State.setIe_rsK (b : Bool) : (s.setIe b).rsK = s.rsK := rfl
@[simp] theorem State.setIe_rsR (b : Bool) : (s.setIe b).rsR = s.rsR := rfl
@[simp] theorem State.setIe_bvValid (b : Bool) : (s.setIe b).bvValid = s.bvValid := rfl
@[simp] theorem State.setIe_bvLen (b : Bool) : (s.setIe b).bvLen = s.bvLen := rfl
@[simp] theorem State.setIe_bv (b : Bool) : (s.setIe b).bv = s.bv := rfl
@[simp] theorem State.setIe_dbuf (b : Bool) : (s.setIe b).dbuf = s.dbuf := rfl
@[simp] theorem State.setIe_mapram (b : Bool) : (s.setIe b).mapram = s.mapram := rfl
@[simp] theorem State.setIe_prim (b : Bool) : (s.setIe b).prim = s.prim := rfl
@[simp] theorem State.setIe_epoch (b : Bool) : (s.setIe b).epoch = s.epoch := rfl
@[simp] theorem State.setIe_draws (b : Bool) : (s.setIe b).draws = s.draws := rfl
@[simp] theorem State.setIe_delay (b : Bool) : (s.setIe b).delay = s.delay := rfl
@[simp] theorem State.setIe_inputs (b : Bool) : (s.setIe b).inputs = s.inputs := rfl
@[simp] theorem State.setIe_hostData (b : Bool) : (s.setIe b).hostData = s.hostData := rfl

/-! ### setBv -/

@[simp] theorem State.setBv_ie (v : BitVec 64) : (s.setBv v).ie = s.ie := rfl
@[simp] theorem State.setBv_busy (v : BitVec 64) : (s.setBv v).busy = s.busy := rfl
@[simp] theorem State.setBv_done (v : BitVec 64) : (s.setBv v).done = s.done := rfl
@[simp] theorem State.setBv_err (v : BitVec 64) : (s.setBv v).err = s.err := rfl
@[simp] theorem State.setBv_noop (v : BitVec 64) : (s.setBv v).noop = s.noop := rfl
@[simp] theorem State.setBv_ovr (v : BitVec 64) : (s.setBv v).ovr = s.ovr := rfl
@[simp] theorem State.setBv_errcode (v : BitVec 64) : (s.setBv v).errcode = s.errcode := rfl
@[simp] theorem State.setBv_cmdl (v : BitVec 64) : (s.setBv v).cmdl = s.cmdl := rfl
@[simp] theorem State.setBv_arg0 (v : BitVec 64) : (s.setBv v).arg0 = s.arg0 := rfl
@[simp] theorem State.setBv_arg1 (v : BitVec 64) : (s.setBv v).arg1 = s.arg1 := rfl
@[simp] theorem State.setBv_res0 (v : BitVec 64) : (s.setBv v).res0 = s.res0 := rfl
@[simp] theorem State.setBv_res1 (v : BitVec 64) : (s.setBv v).res1 = s.res1 := rfl
@[simp] theorem State.setBv_rsValid (v : BitVec 64) : (s.setBv v).rsValid = s.rsValid := rfl
@[simp] theorem State.setBv_rsM (v : BitVec 64) : (s.setBv v).rsM = s.rsM := rfl
@[simp] theorem State.setBv_rsK (v : BitVec 64) : (s.setBv v).rsK = s.rsK := rfl
@[simp] theorem State.setBv_rsR (v : BitVec 64) : (s.setBv v).rsR = s.rsR := rfl
@[simp] theorem State.setBv_bvValid (v : BitVec 64) : (s.setBv v).bvValid = s.bvValid := rfl
@[simp] theorem State.setBv_bvLen (v : BitVec 64) : (s.setBv v).bvLen = s.bvLen := rfl
@[simp] theorem State.setBv_bv (v : BitVec 64) : (s.setBv v).bv = v := rfl
@[simp] theorem State.setBv_dbuf (v : BitVec 64) : (s.setBv v).dbuf = s.dbuf := rfl
@[simp] theorem State.setBv_mapram (v : BitVec 64) : (s.setBv v).mapram = s.mapram := rfl
@[simp] theorem State.setBv_prim (v : BitVec 64) : (s.setBv v).prim = s.prim := rfl
@[simp] theorem State.setBv_epoch (v : BitVec 64) : (s.setBv v).epoch = s.epoch := rfl
@[simp] theorem State.setBv_draws (v : BitVec 64) : (s.setBv v).draws = s.draws := rfl
@[simp] theorem State.setBv_delay (v : BitVec 64) : (s.setBv v).delay = s.delay := rfl
@[simp] theorem State.setBv_inputs (v : BitVec 64) : (s.setBv v).inputs = s.inputs := rfl
@[simp] theorem State.setBv_hostData (v : BitVec 64) : (s.setBv v).hostData = s.hostData := rfl

/-! ### setBvConfig -/

@[simp] theorem State.setBvConfig_ie (b : Bool) (len : BitVec 7) : (s.setBvConfig b len).ie = s.ie := rfl
@[simp] theorem State.setBvConfig_busy (b : Bool) (len : BitVec 7) : (s.setBvConfig b len).busy = s.busy := rfl
@[simp] theorem State.setBvConfig_done (b : Bool) (len : BitVec 7) : (s.setBvConfig b len).done = s.done := rfl
@[simp] theorem State.setBvConfig_err (b : Bool) (len : BitVec 7) : (s.setBvConfig b len).err = s.err := rfl
@[simp] theorem State.setBvConfig_noop (b : Bool) (len : BitVec 7) : (s.setBvConfig b len).noop = s.noop := rfl
@[simp] theorem State.setBvConfig_ovr (b : Bool) (len : BitVec 7) : (s.setBvConfig b len).ovr = s.ovr := rfl
@[simp] theorem State.setBvConfig_errcode (b : Bool) (len : BitVec 7) : (s.setBvConfig b len).errcode = s.errcode := rfl
@[simp] theorem State.setBvConfig_cmdl (b : Bool) (len : BitVec 7) : (s.setBvConfig b len).cmdl = s.cmdl := rfl
@[simp] theorem State.setBvConfig_arg0 (b : Bool) (len : BitVec 7) : (s.setBvConfig b len).arg0 = s.arg0 := rfl
@[simp] theorem State.setBvConfig_arg1 (b : Bool) (len : BitVec 7) : (s.setBvConfig b len).arg1 = s.arg1 := rfl
@[simp] theorem State.setBvConfig_res0 (b : Bool) (len : BitVec 7) : (s.setBvConfig b len).res0 = s.res0 := rfl
@[simp] theorem State.setBvConfig_res1 (b : Bool) (len : BitVec 7) : (s.setBvConfig b len).res1 = s.res1 := rfl
@[simp] theorem State.setBvConfig_rsValid (b : Bool) (len : BitVec 7) : (s.setBvConfig b len).rsValid = s.rsValid := rfl
@[simp] theorem State.setBvConfig_rsM (b : Bool) (len : BitVec 7) : (s.setBvConfig b len).rsM = s.rsM := rfl
@[simp] theorem State.setBvConfig_rsK (b : Bool) (len : BitVec 7) : (s.setBvConfig b len).rsK = s.rsK := rfl
@[simp] theorem State.setBvConfig_rsR (b : Bool) (len : BitVec 7) : (s.setBvConfig b len).rsR = s.rsR := rfl
@[simp] theorem State.setBvConfig_bvValid (b : Bool) (len : BitVec 7) : (s.setBvConfig b len).bvValid = b := rfl
@[simp] theorem State.setBvConfig_bvLen (b : Bool) (len : BitVec 7) : (s.setBvConfig b len).bvLen = len := rfl
@[simp] theorem State.setBvConfig_bv (b : Bool) (len : BitVec 7) : (s.setBvConfig b len).bv = 0#64 := rfl
@[simp] theorem State.setBvConfig_dbuf (b : Bool) (len : BitVec 7) : (s.setBvConfig b len).dbuf = s.dbuf := rfl
@[simp] theorem State.setBvConfig_mapram (b : Bool) (len : BitVec 7) : (s.setBvConfig b len).mapram = s.mapram := rfl
@[simp] theorem State.setBvConfig_prim (b : Bool) (len : BitVec 7) : (s.setBvConfig b len).prim = s.prim := rfl
@[simp] theorem State.setBvConfig_epoch (b : Bool) (len : BitVec 7) : (s.setBvConfig b len).epoch = s.epoch := rfl
@[simp] theorem State.setBvConfig_draws (b : Bool) (len : BitVec 7) : (s.setBvConfig b len).draws = s.draws := rfl
@[simp] theorem State.setBvConfig_delay (b : Bool) (len : BitVec 7) : (s.setBvConfig b len).delay = s.delay := rfl
@[simp] theorem State.setBvConfig_inputs (b : Bool) (len : BitVec 7) : (s.setBvConfig b len).inputs = s.inputs := rfl
@[simp] theorem State.setBvConfig_hostData (b : Bool) (len : BitVec 7) : (s.setBvConfig b len).hostData = s.hostData := rfl

/-! ### setRsConfig -/

@[simp] theorem State.setRsConfig_ie (b : Bool) (m : BitVec 4) (k r : Byte) : (s.setRsConfig b m k r).ie = s.ie := rfl
@[simp] theorem State.setRsConfig_busy (b : Bool) (m : BitVec 4) (k r : Byte) : (s.setRsConfig b m k r).busy = s.busy := rfl
@[simp] theorem State.setRsConfig_done (b : Bool) (m : BitVec 4) (k r : Byte) : (s.setRsConfig b m k r).done = s.done := rfl
@[simp] theorem State.setRsConfig_err (b : Bool) (m : BitVec 4) (k r : Byte) : (s.setRsConfig b m k r).err = s.err := rfl
@[simp] theorem State.setRsConfig_noop (b : Bool) (m : BitVec 4) (k r : Byte) : (s.setRsConfig b m k r).noop = s.noop := rfl
@[simp] theorem State.setRsConfig_ovr (b : Bool) (m : BitVec 4) (k r : Byte) : (s.setRsConfig b m k r).ovr = s.ovr := rfl
@[simp] theorem State.setRsConfig_errcode (b : Bool) (m : BitVec 4) (k r : Byte) : (s.setRsConfig b m k r).errcode = s.errcode := rfl
@[simp] theorem State.setRsConfig_cmdl (b : Bool) (m : BitVec 4) (k r : Byte) : (s.setRsConfig b m k r).cmdl = s.cmdl := rfl
@[simp] theorem State.setRsConfig_arg0 (b : Bool) (m : BitVec 4) (k r : Byte) : (s.setRsConfig b m k r).arg0 = s.arg0 := rfl
@[simp] theorem State.setRsConfig_arg1 (b : Bool) (m : BitVec 4) (k r : Byte) : (s.setRsConfig b m k r).arg1 = s.arg1 := rfl
@[simp] theorem State.setRsConfig_res0 (b : Bool) (m : BitVec 4) (k r : Byte) : (s.setRsConfig b m k r).res0 = s.res0 := rfl
@[simp] theorem State.setRsConfig_res1 (b : Bool) (m : BitVec 4) (k r : Byte) : (s.setRsConfig b m k r).res1 = s.res1 := rfl
@[simp] theorem State.setRsConfig_rsValid (b : Bool) (m : BitVec 4) (k r : Byte) : (s.setRsConfig b m k r).rsValid = b := rfl
@[simp] theorem State.setRsConfig_rsM (b : Bool) (m : BitVec 4) (k r : Byte) : (s.setRsConfig b m k r).rsM = m := rfl
@[simp] theorem State.setRsConfig_rsK (b : Bool) (m : BitVec 4) (k r : Byte) : (s.setRsConfig b m k r).rsK = k := rfl
@[simp] theorem State.setRsConfig_rsR (b : Bool) (m : BitVec 4) (k r : Byte) : (s.setRsConfig b m k r).rsR = r := rfl
@[simp] theorem State.setRsConfig_bvValid (b : Bool) (m : BitVec 4) (k r : Byte) : (s.setRsConfig b m k r).bvValid = s.bvValid := rfl
@[simp] theorem State.setRsConfig_bvLen (b : Bool) (m : BitVec 4) (k r : Byte) : (s.setRsConfig b m k r).bvLen = s.bvLen := rfl
@[simp] theorem State.setRsConfig_bv (b : Bool) (m : BitVec 4) (k r : Byte) : (s.setRsConfig b m k r).bv = s.bv := rfl
@[simp] theorem State.setRsConfig_dbuf (b : Bool) (m : BitVec 4) (k r : Byte) : (s.setRsConfig b m k r).dbuf = s.dbuf := rfl
@[simp] theorem State.setRsConfig_mapram (b : Bool) (m : BitVec 4) (k r : Byte) : (s.setRsConfig b m k r).mapram = s.mapram := rfl
@[simp] theorem State.setRsConfig_prim (b : Bool) (m : BitVec 4) (k r : Byte) : (s.setRsConfig b m k r).prim = s.prim := rfl
@[simp] theorem State.setRsConfig_epoch (b : Bool) (m : BitVec 4) (k r : Byte) : (s.setRsConfig b m k r).epoch = s.epoch := rfl
@[simp] theorem State.setRsConfig_draws (b : Bool) (m : BitVec 4) (k r : Byte) : (s.setRsConfig b m k r).draws = s.draws := rfl
@[simp] theorem State.setRsConfig_delay (b : Bool) (m : BitVec 4) (k r : Byte) : (s.setRsConfig b m k r).delay = s.delay := rfl
@[simp] theorem State.setRsConfig_inputs (b : Bool) (m : BitVec 4) (k r : Byte) : (s.setRsConfig b m k r).inputs = s.inputs := rfl
@[simp] theorem State.setRsConfig_hostData (b : Bool) (m : BitVec 4) (k r : Byte) : (s.setRsConfig b m k r).hostData = s.hostData := rfl

/-! ### memWrite -/

@[simp] theorem State.memWrite_ie (a : Nat) (bytes : List Byte) : (s.memWrite a bytes).ie = s.ie := rfl
@[simp] theorem State.memWrite_busy (a : Nat) (bytes : List Byte) : (s.memWrite a bytes).busy = s.busy := rfl
@[simp] theorem State.memWrite_done (a : Nat) (bytes : List Byte) : (s.memWrite a bytes).done = s.done := rfl
@[simp] theorem State.memWrite_err (a : Nat) (bytes : List Byte) : (s.memWrite a bytes).err = s.err := rfl
@[simp] theorem State.memWrite_noop (a : Nat) (bytes : List Byte) : (s.memWrite a bytes).noop = s.noop := rfl
@[simp] theorem State.memWrite_ovr (a : Nat) (bytes : List Byte) : (s.memWrite a bytes).ovr = s.ovr := rfl
@[simp] theorem State.memWrite_errcode (a : Nat) (bytes : List Byte) : (s.memWrite a bytes).errcode = s.errcode := rfl
@[simp] theorem State.memWrite_cmdl (a : Nat) (bytes : List Byte) : (s.memWrite a bytes).cmdl = s.cmdl := rfl
@[simp] theorem State.memWrite_arg0 (a : Nat) (bytes : List Byte) : (s.memWrite a bytes).arg0 = s.arg0 := rfl
@[simp] theorem State.memWrite_arg1 (a : Nat) (bytes : List Byte) : (s.memWrite a bytes).arg1 = s.arg1 := rfl
@[simp] theorem State.memWrite_res0 (a : Nat) (bytes : List Byte) : (s.memWrite a bytes).res0 = s.res0 := rfl
@[simp] theorem State.memWrite_res1 (a : Nat) (bytes : List Byte) : (s.memWrite a bytes).res1 = s.res1 := rfl
@[simp] theorem State.memWrite_rsValid (a : Nat) (bytes : List Byte) : (s.memWrite a bytes).rsValid = s.rsValid := rfl
@[simp] theorem State.memWrite_rsM (a : Nat) (bytes : List Byte) : (s.memWrite a bytes).rsM = s.rsM := rfl
@[simp] theorem State.memWrite_rsK (a : Nat) (bytes : List Byte) : (s.memWrite a bytes).rsK = s.rsK := rfl
@[simp] theorem State.memWrite_rsR (a : Nat) (bytes : List Byte) : (s.memWrite a bytes).rsR = s.rsR := rfl
@[simp] theorem State.memWrite_bvValid (a : Nat) (bytes : List Byte) : (s.memWrite a bytes).bvValid = s.bvValid := rfl
@[simp] theorem State.memWrite_bvLen (a : Nat) (bytes : List Byte) : (s.memWrite a bytes).bvLen = s.bvLen := rfl
@[simp] theorem State.memWrite_bv (a : Nat) (bytes : List Byte) : (s.memWrite a bytes).bv = s.bv := rfl
@[simp] theorem State.memWrite_dbuf (a : Nat) (bytes : List Byte) : (s.memWrite a bytes).dbuf = putCells s.dbuf a bytes := rfl
@[simp] theorem State.memWrite_mapram (a : Nat) (bytes : List Byte) : (s.memWrite a bytes).mapram = s.mapram := rfl
@[simp] theorem State.memWrite_prim (a : Nat) (bytes : List Byte) : (s.memWrite a bytes).prim = s.prim := rfl
@[simp] theorem State.memWrite_epoch (a : Nat) (bytes : List Byte) : (s.memWrite a bytes).epoch = s.epoch := rfl
@[simp] theorem State.memWrite_draws (a : Nat) (bytes : List Byte) : (s.memWrite a bytes).draws = s.draws := rfl
@[simp] theorem State.memWrite_delay (a : Nat) (bytes : List Byte) : (s.memWrite a bytes).delay = s.delay := rfl
@[simp] theorem State.memWrite_inputs (a : Nat) (bytes : List Byte) : (s.memWrite a bytes).inputs = s.inputs := rfl
@[simp] theorem State.memWrite_hostData (a : Nat) (bytes : List Byte) : (s.memWrite a bytes).hostData = s.hostData := rfl

/-! ### mapWrite -/

@[simp] theorem State.mapWrite_ie (i : Nat) (entries : List (BitVec 6)) : (s.mapWrite i entries).ie = s.ie := rfl
@[simp] theorem State.mapWrite_busy (i : Nat) (entries : List (BitVec 6)) : (s.mapWrite i entries).busy = s.busy := rfl
@[simp] theorem State.mapWrite_done (i : Nat) (entries : List (BitVec 6)) : (s.mapWrite i entries).done = s.done := rfl
@[simp] theorem State.mapWrite_err (i : Nat) (entries : List (BitVec 6)) : (s.mapWrite i entries).err = s.err := rfl
@[simp] theorem State.mapWrite_noop (i : Nat) (entries : List (BitVec 6)) : (s.mapWrite i entries).noop = s.noop := rfl
@[simp] theorem State.mapWrite_ovr (i : Nat) (entries : List (BitVec 6)) : (s.mapWrite i entries).ovr = s.ovr := rfl
@[simp] theorem State.mapWrite_errcode (i : Nat) (entries : List (BitVec 6)) : (s.mapWrite i entries).errcode = s.errcode := rfl
@[simp] theorem State.mapWrite_cmdl (i : Nat) (entries : List (BitVec 6)) : (s.mapWrite i entries).cmdl = s.cmdl := rfl
@[simp] theorem State.mapWrite_arg0 (i : Nat) (entries : List (BitVec 6)) : (s.mapWrite i entries).arg0 = s.arg0 := rfl
@[simp] theorem State.mapWrite_arg1 (i : Nat) (entries : List (BitVec 6)) : (s.mapWrite i entries).arg1 = s.arg1 := rfl
@[simp] theorem State.mapWrite_res0 (i : Nat) (entries : List (BitVec 6)) : (s.mapWrite i entries).res0 = s.res0 := rfl
@[simp] theorem State.mapWrite_res1 (i : Nat) (entries : List (BitVec 6)) : (s.mapWrite i entries).res1 = s.res1 := rfl
@[simp] theorem State.mapWrite_rsValid (i : Nat) (entries : List (BitVec 6)) : (s.mapWrite i entries).rsValid = s.rsValid := rfl
@[simp] theorem State.mapWrite_rsM (i : Nat) (entries : List (BitVec 6)) : (s.mapWrite i entries).rsM = s.rsM := rfl
@[simp] theorem State.mapWrite_rsK (i : Nat) (entries : List (BitVec 6)) : (s.mapWrite i entries).rsK = s.rsK := rfl
@[simp] theorem State.mapWrite_rsR (i : Nat) (entries : List (BitVec 6)) : (s.mapWrite i entries).rsR = s.rsR := rfl
@[simp] theorem State.mapWrite_bvValid (i : Nat) (entries : List (BitVec 6)) : (s.mapWrite i entries).bvValid = s.bvValid := rfl
@[simp] theorem State.mapWrite_bvLen (i : Nat) (entries : List (BitVec 6)) : (s.mapWrite i entries).bvLen = s.bvLen := rfl
@[simp] theorem State.mapWrite_bv (i : Nat) (entries : List (BitVec 6)) : (s.mapWrite i entries).bv = s.bv := rfl
@[simp] theorem State.mapWrite_dbuf (i : Nat) (entries : List (BitVec 6)) : (s.mapWrite i entries).dbuf = s.dbuf := rfl
@[simp] theorem State.mapWrite_mapram (i : Nat) (entries : List (BitVec 6)) : (s.mapWrite i entries).mapram = putCells s.mapram i entries := rfl
@[simp] theorem State.mapWrite_prim (i : Nat) (entries : List (BitVec 6)) : (s.mapWrite i entries).prim = s.prim := rfl
@[simp] theorem State.mapWrite_epoch (i : Nat) (entries : List (BitVec 6)) : (s.mapWrite i entries).epoch = s.epoch := rfl
@[simp] theorem State.mapWrite_draws (i : Nat) (entries : List (BitVec 6)) : (s.mapWrite i entries).draws = s.draws := rfl
@[simp] theorem State.mapWrite_delay (i : Nat) (entries : List (BitVec 6)) : (s.mapWrite i entries).delay = s.delay := rfl
@[simp] theorem State.mapWrite_inputs (i : Nat) (entries : List (BitVec 6)) : (s.mapWrite i entries).inputs = s.inputs := rfl
@[simp] theorem State.mapWrite_hostData (i : Nat) (entries : List (BitVec 6)) : (s.mapWrite i entries).hostData = s.hostData := rfl

/-! ### setHostData -/

@[simp] theorem State.setHostData_ie (data : Word) : (s.setHostData data).ie = s.ie := rfl
@[simp] theorem State.setHostData_busy (data : Word) : (s.setHostData data).busy = s.busy := rfl
@[simp] theorem State.setHostData_done (data : Word) : (s.setHostData data).done = s.done := rfl
@[simp] theorem State.setHostData_err (data : Word) : (s.setHostData data).err = s.err := rfl
@[simp] theorem State.setHostData_noop (data : Word) : (s.setHostData data).noop = s.noop := rfl
@[simp] theorem State.setHostData_ovr (data : Word) : (s.setHostData data).ovr = s.ovr := rfl
@[simp] theorem State.setHostData_errcode (data : Word) : (s.setHostData data).errcode = s.errcode := rfl
@[simp] theorem State.setHostData_cmdl (data : Word) : (s.setHostData data).cmdl = s.cmdl := rfl
@[simp] theorem State.setHostData_arg0 (data : Word) : (s.setHostData data).arg0 = s.arg0 := rfl
@[simp] theorem State.setHostData_arg1 (data : Word) : (s.setHostData data).arg1 = s.arg1 := rfl
@[simp] theorem State.setHostData_res0 (data : Word) : (s.setHostData data).res0 = s.res0 := rfl
@[simp] theorem State.setHostData_res1 (data : Word) : (s.setHostData data).res1 = s.res1 := rfl
@[simp] theorem State.setHostData_rsValid (data : Word) : (s.setHostData data).rsValid = s.rsValid := rfl
@[simp] theorem State.setHostData_rsM (data : Word) : (s.setHostData data).rsM = s.rsM := rfl
@[simp] theorem State.setHostData_rsK (data : Word) : (s.setHostData data).rsK = s.rsK := rfl
@[simp] theorem State.setHostData_rsR (data : Word) : (s.setHostData data).rsR = s.rsR := rfl
@[simp] theorem State.setHostData_bvValid (data : Word) : (s.setHostData data).bvValid = s.bvValid := rfl
@[simp] theorem State.setHostData_bvLen (data : Word) : (s.setHostData data).bvLen = s.bvLen := rfl
@[simp] theorem State.setHostData_bv (data : Word) : (s.setHostData data).bv = s.bv := rfl
@[simp] theorem State.setHostData_dbuf (data : Word) : (s.setHostData data).dbuf = s.dbuf := rfl
@[simp] theorem State.setHostData_mapram (data : Word) : (s.setHostData data).mapram = s.mapram := rfl
@[simp] theorem State.setHostData_prim (data : Word) : (s.setHostData data).prim = s.prim := rfl
@[simp] theorem State.setHostData_epoch (data : Word) : (s.setHostData data).epoch = s.epoch := rfl
@[simp] theorem State.setHostData_draws (data : Word) : (s.setHostData data).draws = s.draws := rfl
@[simp] theorem State.setHostData_delay (data : Word) : (s.setHostData data).delay = s.delay := rfl
@[simp] theorem State.setHostData_inputs (data : Word) : (s.setHostData data).inputs = s.inputs := rfl
@[simp] theorem State.setHostData_hostData (data : Word) : (s.setHostData data).hostData = data := rfl

/-! ### nextDraw -/

@[simp] theorem State.nextDraw_ie : (s.nextDraw).ie = s.ie := rfl
@[simp] theorem State.nextDraw_busy : (s.nextDraw).busy = s.busy := rfl
@[simp] theorem State.nextDraw_done : (s.nextDraw).done = s.done := rfl
@[simp] theorem State.nextDraw_err : (s.nextDraw).err = s.err := rfl
@[simp] theorem State.nextDraw_noop : (s.nextDraw).noop = s.noop := rfl
@[simp] theorem State.nextDraw_ovr : (s.nextDraw).ovr = s.ovr := rfl
@[simp] theorem State.nextDraw_errcode : (s.nextDraw).errcode = s.errcode := rfl
@[simp] theorem State.nextDraw_cmdl : (s.nextDraw).cmdl = s.cmdl := rfl
@[simp] theorem State.nextDraw_arg0 : (s.nextDraw).arg0 = s.arg0 := rfl
@[simp] theorem State.nextDraw_arg1 : (s.nextDraw).arg1 = s.arg1 := rfl
@[simp] theorem State.nextDraw_res0 : (s.nextDraw).res0 = s.res0 := rfl
@[simp] theorem State.nextDraw_res1 : (s.nextDraw).res1 = s.res1 := rfl
@[simp] theorem State.nextDraw_rsValid : (s.nextDraw).rsValid = s.rsValid := rfl
@[simp] theorem State.nextDraw_rsM : (s.nextDraw).rsM = s.rsM := rfl
@[simp] theorem State.nextDraw_rsK : (s.nextDraw).rsK = s.rsK := rfl
@[simp] theorem State.nextDraw_rsR : (s.nextDraw).rsR = s.rsR := rfl
@[simp] theorem State.nextDraw_bvValid : (s.nextDraw).bvValid = s.bvValid := rfl
@[simp] theorem State.nextDraw_bvLen : (s.nextDraw).bvLen = s.bvLen := rfl
@[simp] theorem State.nextDraw_bv : (s.nextDraw).bv = s.bv := rfl
@[simp] theorem State.nextDraw_dbuf : (s.nextDraw).dbuf = s.dbuf := rfl
@[simp] theorem State.nextDraw_mapram : (s.nextDraw).mapram = s.mapram := rfl
@[simp] theorem State.nextDraw_prim : (s.nextDraw).prim = s.prim := rfl
@[simp] theorem State.nextDraw_epoch : (s.nextDraw).epoch = s.epoch := rfl
@[simp] theorem State.nextDraw_draws : (s.nextDraw).draws = s.draws + 1 := rfl
@[simp] theorem State.nextDraw_delay : (s.nextDraw).delay = s.delay := rfl
@[simp] theorem State.nextDraw_inputs : (s.nextDraw).inputs = s.inputs := rfl
@[simp] theorem State.nextDraw_hostData : (s.nextDraw).hostData = s.hostData := rfl

/-! ### tick -/

@[simp] theorem State.tick_ie : (s.tick).ie = s.ie := rfl
@[simp] theorem State.tick_busy : (s.tick).busy = s.busy := rfl
@[simp] theorem State.tick_done : (s.tick).done = s.done := rfl
@[simp] theorem State.tick_err : (s.tick).err = s.err := rfl
@[simp] theorem State.tick_noop : (s.tick).noop = s.noop := rfl
@[simp] theorem State.tick_ovr : (s.tick).ovr = s.ovr := rfl
@[simp] theorem State.tick_errcode : (s.tick).errcode = s.errcode := rfl
@[simp] theorem State.tick_cmdl : (s.tick).cmdl = s.cmdl := rfl
@[simp] theorem State.tick_arg0 : (s.tick).arg0 = s.arg0 := rfl
@[simp] theorem State.tick_arg1 : (s.tick).arg1 = s.arg1 := rfl
@[simp] theorem State.tick_res0 : (s.tick).res0 = s.res0 := rfl
@[simp] theorem State.tick_res1 : (s.tick).res1 = s.res1 := rfl
@[simp] theorem State.tick_rsValid : (s.tick).rsValid = s.rsValid := rfl
@[simp] theorem State.tick_rsM : (s.tick).rsM = s.rsM := rfl
@[simp] theorem State.tick_rsK : (s.tick).rsK = s.rsK := rfl
@[simp] theorem State.tick_rsR : (s.tick).rsR = s.rsR := rfl
@[simp] theorem State.tick_bvValid : (s.tick).bvValid = s.bvValid := rfl
@[simp] theorem State.tick_bvLen : (s.tick).bvLen = s.bvLen := rfl
@[simp] theorem State.tick_bv : (s.tick).bv = s.bv := rfl
@[simp] theorem State.tick_dbuf : (s.tick).dbuf = s.dbuf := rfl
@[simp] theorem State.tick_mapram : (s.tick).mapram = s.mapram := rfl
@[simp] theorem State.tick_prim : (s.tick).prim = s.prim := rfl
@[simp] theorem State.tick_epoch : (s.tick).epoch = s.epoch := rfl
@[simp] theorem State.tick_draws : (s.tick).draws = s.draws := rfl
@[simp] theorem State.tick_delay : (s.tick).delay = s.delay - 1 := rfl
@[simp] theorem State.tick_inputs : (s.tick).inputs = s.inputs := rfl
@[simp] theorem State.tick_hostData : (s.tick).hostData = s.hostData := rfl

/-! ### setInputs -/

@[simp] theorem State.setInputs_ie (l : List HostAction) : (s.setInputs l).ie = s.ie := rfl
@[simp] theorem State.setInputs_busy (l : List HostAction) : (s.setInputs l).busy = s.busy := rfl
@[simp] theorem State.setInputs_done (l : List HostAction) : (s.setInputs l).done = s.done := rfl
@[simp] theorem State.setInputs_err (l : List HostAction) : (s.setInputs l).err = s.err := rfl
@[simp] theorem State.setInputs_noop (l : List HostAction) : (s.setInputs l).noop = s.noop := rfl
@[simp] theorem State.setInputs_ovr (l : List HostAction) : (s.setInputs l).ovr = s.ovr := rfl
@[simp] theorem State.setInputs_errcode (l : List HostAction) : (s.setInputs l).errcode = s.errcode := rfl
@[simp] theorem State.setInputs_cmdl (l : List HostAction) : (s.setInputs l).cmdl = s.cmdl := rfl
@[simp] theorem State.setInputs_arg0 (l : List HostAction) : (s.setInputs l).arg0 = s.arg0 := rfl
@[simp] theorem State.setInputs_arg1 (l : List HostAction) : (s.setInputs l).arg1 = s.arg1 := rfl
@[simp] theorem State.setInputs_res0 (l : List HostAction) : (s.setInputs l).res0 = s.res0 := rfl
@[simp] theorem State.setInputs_res1 (l : List HostAction) : (s.setInputs l).res1 = s.res1 := rfl
@[simp] theorem State.setInputs_rsValid (l : List HostAction) : (s.setInputs l).rsValid = s.rsValid := rfl
@[simp] theorem State.setInputs_rsM (l : List HostAction) : (s.setInputs l).rsM = s.rsM := rfl
@[simp] theorem State.setInputs_rsK (l : List HostAction) : (s.setInputs l).rsK = s.rsK := rfl
@[simp] theorem State.setInputs_rsR (l : List HostAction) : (s.setInputs l).rsR = s.rsR := rfl
@[simp] theorem State.setInputs_bvValid (l : List HostAction) : (s.setInputs l).bvValid = s.bvValid := rfl
@[simp] theorem State.setInputs_bvLen (l : List HostAction) : (s.setInputs l).bvLen = s.bvLen := rfl
@[simp] theorem State.setInputs_bv (l : List HostAction) : (s.setInputs l).bv = s.bv := rfl
@[simp] theorem State.setInputs_dbuf (l : List HostAction) : (s.setInputs l).dbuf = s.dbuf := rfl
@[simp] theorem State.setInputs_mapram (l : List HostAction) : (s.setInputs l).mapram = s.mapram := rfl
@[simp] theorem State.setInputs_prim (l : List HostAction) : (s.setInputs l).prim = s.prim := rfl
@[simp] theorem State.setInputs_epoch (l : List HostAction) : (s.setInputs l).epoch = s.epoch := rfl
@[simp] theorem State.setInputs_draws (l : List HostAction) : (s.setInputs l).draws = s.draws := rfl
@[simp] theorem State.setInputs_delay (l : List HostAction) : (s.setInputs l).delay = s.delay := rfl
@[simp] theorem State.setInputs_inputs (l : List HostAction) : (s.setInputs l).inputs = l := rfl
@[simp] theorem State.setInputs_hostData (l : List HostAction) : (s.setInputs l).hostData = s.hostData := rfl

/-! ### latchCommand -/

@[simp] theorem State.latchCommand_ie (w : Word) : (s.latchCommand w).ie = s.ie := rfl
@[simp] theorem State.latchCommand_busy (w : Word) : (s.latchCommand w).busy = true := rfl
@[simp] theorem State.latchCommand_done (w : Word) : (s.latchCommand w).done = s.done := rfl
@[simp] theorem State.latchCommand_err (w : Word) : (s.latchCommand w).err = s.err := rfl
@[simp] theorem State.latchCommand_noop (w : Word) : (s.latchCommand w).noop = s.noop := rfl
@[simp] theorem State.latchCommand_ovr (w : Word) : (s.latchCommand w).ovr = s.ovr := rfl
@[simp] theorem State.latchCommand_errcode (w : Word) : (s.latchCommand w).errcode = s.errcode := rfl
@[simp] theorem State.latchCommand_cmdl (w : Word) : (s.latchCommand w).cmdl = w := rfl
@[simp] theorem State.latchCommand_arg0 (w : Word) : (s.latchCommand w).arg0 = s.arg0 := rfl
@[simp] theorem State.latchCommand_arg1 (w : Word) : (s.latchCommand w).arg1 = s.arg1 := rfl
@[simp] theorem State.latchCommand_res0 (w : Word) : (s.latchCommand w).res0 = s.res0 := rfl
@[simp] theorem State.latchCommand_res1 (w : Word) : (s.latchCommand w).res1 = s.res1 := rfl
@[simp] theorem State.latchCommand_rsValid (w : Word) : (s.latchCommand w).rsValid = s.rsValid := rfl
@[simp] theorem State.latchCommand_rsM (w : Word) : (s.latchCommand w).rsM = s.rsM := rfl
@[simp] theorem State.latchCommand_rsK (w : Word) : (s.latchCommand w).rsK = s.rsK := rfl
@[simp] theorem State.latchCommand_rsR (w : Word) : (s.latchCommand w).rsR = s.rsR := rfl
@[simp] theorem State.latchCommand_bvValid (w : Word) : (s.latchCommand w).bvValid = s.bvValid := rfl
@[simp] theorem State.latchCommand_bvLen (w : Word) : (s.latchCommand w).bvLen = s.bvLen := rfl
@[simp] theorem State.latchCommand_bv (w : Word) : (s.latchCommand w).bv = s.bv := rfl
@[simp] theorem State.latchCommand_dbuf (w : Word) : (s.latchCommand w).dbuf = s.dbuf := rfl
@[simp] theorem State.latchCommand_mapram (w : Word) : (s.latchCommand w).mapram = s.mapram := rfl
@[simp] theorem State.latchCommand_prim (w : Word) : (s.latchCommand w).prim = s.prim := rfl
@[simp] theorem State.latchCommand_epoch (w : Word) : (s.latchCommand w).epoch = s.epoch := rfl
@[simp] theorem State.latchCommand_draws (w : Word) : (s.latchCommand w).draws = s.draws := rfl
@[simp] theorem State.latchCommand_delay (w : Word) : (s.latchCommand w).delay = 0 := rfl
@[simp] theorem State.latchCommand_inputs (w : Word) : (s.latchCommand w).inputs = s.inputs := rfl
@[simp] theorem State.latchCommand_hostData (w : Word) : (s.latchCommand w).hostData = s.hostData := rfl

/-! ### acceptCommand -/

@[simp] theorem State.acceptCommand_ie (w : Word) : (s.acceptCommand w).ie = s.ie := rfl
@[simp] theorem State.acceptCommand_busy (w : Word) : (s.acceptCommand w).busy = true := rfl
@[simp] theorem State.acceptCommand_done (w : Word) : (s.acceptCommand w).done = false := rfl
@[simp] theorem State.acceptCommand_err (w : Word) : (s.acceptCommand w).err = false := rfl
@[simp] theorem State.acceptCommand_noop (w : Word) : (s.acceptCommand w).noop = false := rfl
@[simp] theorem State.acceptCommand_ovr (w : Word) : (s.acceptCommand w).ovr = s.ovr := rfl
@[simp] theorem State.acceptCommand_errcode (w : Word) : (s.acceptCommand w).errcode = none := rfl
@[simp] theorem State.acceptCommand_cmdl (w : Word) : (s.acceptCommand w).cmdl = w := rfl
@[simp] theorem State.acceptCommand_arg0 (w : Word) : (s.acceptCommand w).arg0 = s.arg0 := rfl
@[simp] theorem State.acceptCommand_arg1 (w : Word) : (s.acceptCommand w).arg1 = s.arg1 := rfl
@[simp] theorem State.acceptCommand_res0 (w : Word) : (s.acceptCommand w).res0 = s.res0 := rfl
@[simp] theorem State.acceptCommand_res1 (w : Word) : (s.acceptCommand w).res1 = s.res1 := rfl
@[simp] theorem State.acceptCommand_rsValid (w : Word) : (s.acceptCommand w).rsValid = s.rsValid := rfl
@[simp] theorem State.acceptCommand_rsM (w : Word) : (s.acceptCommand w).rsM = s.rsM := rfl
@[simp] theorem State.acceptCommand_rsK (w : Word) : (s.acceptCommand w).rsK = s.rsK := rfl
@[simp] theorem State.acceptCommand_rsR (w : Word) : (s.acceptCommand w).rsR = s.rsR := rfl
@[simp] theorem State.acceptCommand_bvValid (w : Word) : (s.acceptCommand w).bvValid = s.bvValid := rfl
@[simp] theorem State.acceptCommand_bvLen (w : Word) : (s.acceptCommand w).bvLen = s.bvLen := rfl
@[simp] theorem State.acceptCommand_bv (w : Word) : (s.acceptCommand w).bv = s.bv := rfl
@[simp] theorem State.acceptCommand_dbuf (w : Word) : (s.acceptCommand w).dbuf = s.dbuf := rfl
@[simp] theorem State.acceptCommand_mapram (w : Word) : (s.acceptCommand w).mapram = s.mapram := rfl
@[simp] theorem State.acceptCommand_prim (w : Word) : (s.acceptCommand w).prim = s.prim := rfl
@[simp] theorem State.acceptCommand_epoch (w : Word) : (s.acceptCommand w).epoch = s.epoch := rfl
@[simp] theorem State.acceptCommand_draws (w : Word) : (s.acceptCommand w).draws = s.draws + 1 := rfl
@[simp] theorem State.acceptCommand_delay (w : Word) : (s.acceptCommand w).delay = Config.completionDelay s.draws := rfl
@[simp] theorem State.acceptCommand_inputs (w : Word) : (s.acceptCommand w).inputs = s.inputs := rfl
@[simp] theorem State.acceptCommand_hostData (w : Word) : (s.acceptCommand w).hostData = s.hostData := rfl

/-! ### writeStatus -/

@[simp] theorem State.writeStatus_ie (data : Word) : (s.writeStatus data).ie = s.ie := rfl
@[simp] theorem State.writeStatus_busy (data : Word) : (s.writeStatus data).busy = s.busy := rfl
@[simp] theorem State.writeStatus_done (data : Word) : (s.writeStatus data).done = (s.done && !data.getLsbD 1) := rfl
@[simp] theorem State.writeStatus_err (data : Word) : (s.writeStatus data).err = s.err := rfl
@[simp] theorem State.writeStatus_noop (data : Word) : (s.writeStatus data).noop = s.noop := rfl
@[simp] theorem State.writeStatus_ovr (data : Word) : (s.writeStatus data).ovr = (s.ovr && !data.getLsbD 4) := rfl
@[simp] theorem State.writeStatus_errcode (data : Word) : (s.writeStatus data).errcode = s.errcode := rfl
@[simp] theorem State.writeStatus_cmdl (data : Word) : (s.writeStatus data).cmdl = s.cmdl := rfl
@[simp] theorem State.writeStatus_arg0 (data : Word) : (s.writeStatus data).arg0 = s.arg0 := rfl
@[simp] theorem State.writeStatus_arg1 (data : Word) : (s.writeStatus data).arg1 = s.arg1 := rfl
@[simp] theorem State.writeStatus_res0 (data : Word) : (s.writeStatus data).res0 = s.res0 := rfl
@[simp] theorem State.writeStatus_res1 (data : Word) : (s.writeStatus data).res1 = s.res1 := rfl
@[simp] theorem State.writeStatus_rsValid (data : Word) : (s.writeStatus data).rsValid = s.rsValid := rfl
@[simp] theorem State.writeStatus_rsM (data : Word) : (s.writeStatus data).rsM = s.rsM := rfl
@[simp] theorem State.writeStatus_rsK (data : Word) : (s.writeStatus data).rsK = s.rsK := rfl
@[simp] theorem State.writeStatus_rsR (data : Word) : (s.writeStatus data).rsR = s.rsR := rfl
@[simp] theorem State.writeStatus_bvValid (data : Word) : (s.writeStatus data).bvValid = s.bvValid := rfl
@[simp] theorem State.writeStatus_bvLen (data : Word) : (s.writeStatus data).bvLen = s.bvLen := rfl
@[simp] theorem State.writeStatus_bv (data : Word) : (s.writeStatus data).bv = s.bv := rfl
@[simp] theorem State.writeStatus_dbuf (data : Word) : (s.writeStatus data).dbuf = s.dbuf := rfl
@[simp] theorem State.writeStatus_mapram (data : Word) : (s.writeStatus data).mapram = s.mapram := rfl
@[simp] theorem State.writeStatus_prim (data : Word) : (s.writeStatus data).prim = s.prim := rfl
@[simp] theorem State.writeStatus_epoch (data : Word) : (s.writeStatus data).epoch = s.epoch := rfl
@[simp] theorem State.writeStatus_draws (data : Word) : (s.writeStatus data).draws = s.draws := rfl
@[simp] theorem State.writeStatus_delay (data : Word) : (s.writeStatus data).delay = s.delay := rfl
@[simp] theorem State.writeStatus_inputs (data : Word) : (s.writeStatus data).inputs = s.inputs := rfl
@[simp] theorem State.writeStatus_hostData (data : Word) : (s.writeStatus data).hostData = s.hostData := rfl

/-! ### dropWrite -/

@[simp] theorem State.dropWrite_ie : (s.dropWrite).ie = s.ie := rfl
@[simp] theorem State.dropWrite_busy : (s.dropWrite).busy = s.busy := rfl
@[simp] theorem State.dropWrite_done : (s.dropWrite).done = s.done := rfl
@[simp] theorem State.dropWrite_err : (s.dropWrite).err = s.err := rfl
@[simp] theorem State.dropWrite_noop : (s.dropWrite).noop = s.noop := rfl
@[simp] theorem State.dropWrite_ovr : (s.dropWrite).ovr = true := rfl
@[simp] theorem State.dropWrite_errcode : (s.dropWrite).errcode = s.errcode := rfl
@[simp] theorem State.dropWrite_cmdl : (s.dropWrite).cmdl = s.cmdl := rfl
@[simp] theorem State.dropWrite_arg0 : (s.dropWrite).arg0 = s.arg0 := rfl
@[simp] theorem State.dropWrite_arg1 : (s.dropWrite).arg1 = s.arg1 := rfl
@[simp] theorem State.dropWrite_res0 : (s.dropWrite).res0 = s.res0 := rfl
@[simp] theorem State.dropWrite_res1 : (s.dropWrite).res1 = s.res1 := rfl
@[simp] theorem State.dropWrite_rsValid : (s.dropWrite).rsValid = s.rsValid := rfl
@[simp] theorem State.dropWrite_rsM : (s.dropWrite).rsM = s.rsM := rfl
@[simp] theorem State.dropWrite_rsK : (s.dropWrite).rsK = s.rsK := rfl
@[simp] theorem State.dropWrite_rsR : (s.dropWrite).rsR = s.rsR := rfl
@[simp] theorem State.dropWrite_bvValid : (s.dropWrite).bvValid = s.bvValid := rfl
@[simp] theorem State.dropWrite_bvLen : (s.dropWrite).bvLen = s.bvLen := rfl
@[simp] theorem State.dropWrite_bv : (s.dropWrite).bv = s.bv := rfl
@[simp] theorem State.dropWrite_dbuf : (s.dropWrite).dbuf = s.dbuf := rfl
@[simp] theorem State.dropWrite_mapram : (s.dropWrite).mapram = s.mapram := rfl
@[simp] theorem State.dropWrite_prim : (s.dropWrite).prim = s.prim := rfl
@[simp] theorem State.dropWrite_epoch : (s.dropWrite).epoch = s.epoch := rfl
@[simp] theorem State.dropWrite_draws : (s.dropWrite).draws = s.draws := rfl
@[simp] theorem State.dropWrite_delay : (s.dropWrite).delay = s.delay := rfl
@[simp] theorem State.dropWrite_inputs : (s.dropWrite).inputs = s.inputs := rfl
@[simp] theorem State.dropWrite_hostData : (s.dropWrite).hostData = s.hostData := rfl

/-! ### clearUnits -/

@[simp] theorem State.clearUnits_ie : (s.clearUnits).ie = s.ie := rfl
@[simp] theorem State.clearUnits_busy : (s.clearUnits).busy = false := rfl
@[simp] theorem State.clearUnits_done : (s.clearUnits).done = false := rfl
@[simp] theorem State.clearUnits_err : (s.clearUnits).err = false := rfl
@[simp] theorem State.clearUnits_noop : (s.clearUnits).noop = false := rfl
@[simp] theorem State.clearUnits_ovr : (s.clearUnits).ovr = false := rfl
@[simp] theorem State.clearUnits_errcode : (s.clearUnits).errcode = none := rfl
@[simp] theorem State.clearUnits_cmdl : (s.clearUnits).cmdl = 0#32 := rfl
@[simp] theorem State.clearUnits_arg0 : (s.clearUnits).arg0 = 0#32 := rfl
@[simp] theorem State.clearUnits_arg1 : (s.clearUnits).arg1 = 0#32 := rfl
@[simp] theorem State.clearUnits_res0 : (s.clearUnits).res0 = 0#32 := rfl
@[simp] theorem State.clearUnits_res1 : (s.clearUnits).res1 = 0#32 := rfl
@[simp] theorem State.clearUnits_rsValid : (s.clearUnits).rsValid = false := rfl
@[simp] theorem State.clearUnits_rsM : (s.clearUnits).rsM = 0#4 := rfl
@[simp] theorem State.clearUnits_rsK : (s.clearUnits).rsK = 0#8 := rfl
@[simp] theorem State.clearUnits_rsR : (s.clearUnits).rsR = 0#8 := rfl
@[simp] theorem State.clearUnits_bvValid : (s.clearUnits).bvValid = false := rfl
@[simp] theorem State.clearUnits_bvLen : (s.clearUnits).bvLen = 0#7 := rfl
@[simp] theorem State.clearUnits_bv : (s.clearUnits).bv = 0#64 := rfl
@[simp] theorem State.clearUnits_dbuf : (s.clearUnits).dbuf = s.dbuf := rfl
@[simp] theorem State.clearUnits_mapram : (s.clearUnits).mapram = s.mapram := rfl
@[simp] theorem State.clearUnits_prim : (s.clearUnits).prim = s.prim := rfl
@[simp] theorem State.clearUnits_epoch : (s.clearUnits).epoch = s.epoch := rfl
@[simp] theorem State.clearUnits_draws : (s.clearUnits).draws = s.draws := rfl
@[simp] theorem State.clearUnits_delay : (s.clearUnits).delay = 0 := rfl
@[simp] theorem State.clearUnits_inputs : (s.clearUnits).inputs = s.inputs := rfl
@[simp] theorem State.clearUnits_hostData : (s.clearUnits).hostData = s.hostData := rfl

/-! ### endCommand -/

@[simp] theorem State.endCommand_ie (o : CmdOutcome) : (s.endCommand o).ie = s.ie := rfl
@[simp] theorem State.endCommand_busy (o : CmdOutcome) : (s.endCommand o).busy = false := rfl
@[simp] theorem State.endCommand_done (o : CmdOutcome) : (s.endCommand o).done = true := rfl
@[simp] theorem State.endCommand_ovr (o : CmdOutcome) : (s.endCommand o).ovr = s.ovr := rfl
@[simp] theorem State.endCommand_cmdl (o : CmdOutcome) : (s.endCommand o).cmdl = s.cmdl := rfl
@[simp] theorem State.endCommand_arg0 (o : CmdOutcome) : (s.endCommand o).arg0 = s.arg0 := rfl
@[simp] theorem State.endCommand_arg1 (o : CmdOutcome) : (s.endCommand o).arg1 = s.arg1 := rfl
@[simp] theorem State.endCommand_res0 (o : CmdOutcome) : (s.endCommand o).res0 = s.res0 := rfl
@[simp] theorem State.endCommand_res1 (o : CmdOutcome) : (s.endCommand o).res1 = s.res1 := rfl
@[simp] theorem State.endCommand_rsValid (o : CmdOutcome) : (s.endCommand o).rsValid = s.rsValid := rfl
@[simp] theorem State.endCommand_rsM (o : CmdOutcome) : (s.endCommand o).rsM = s.rsM := rfl
@[simp] theorem State.endCommand_rsK (o : CmdOutcome) : (s.endCommand o).rsK = s.rsK := rfl
@[simp] theorem State.endCommand_rsR (o : CmdOutcome) : (s.endCommand o).rsR = s.rsR := rfl
@[simp] theorem State.endCommand_bvValid (o : CmdOutcome) : (s.endCommand o).bvValid = s.bvValid := rfl
@[simp] theorem State.endCommand_bvLen (o : CmdOutcome) : (s.endCommand o).bvLen = s.bvLen := rfl
@[simp] theorem State.endCommand_bv (o : CmdOutcome) : (s.endCommand o).bv = s.bv := rfl
@[simp] theorem State.endCommand_dbuf (o : CmdOutcome) : (s.endCommand o).dbuf = s.dbuf := rfl
@[simp] theorem State.endCommand_mapram (o : CmdOutcome) : (s.endCommand o).mapram = s.mapram := rfl
@[simp] theorem State.endCommand_prim (o : CmdOutcome) : (s.endCommand o).prim = s.prim := rfl
@[simp] theorem State.endCommand_epoch (o : CmdOutcome) : (s.endCommand o).epoch = s.epoch := rfl
@[simp] theorem State.endCommand_draws (o : CmdOutcome) : (s.endCommand o).draws = s.draws := rfl
@[simp] theorem State.endCommand_delay (o : CmdOutcome) : (s.endCommand o).delay = s.delay := rfl
@[simp] theorem State.endCommand_inputs (o : CmdOutcome) : (s.endCommand o).inputs = s.inputs := rfl
@[simp] theorem State.endCommand_hostData (o : CmdOutcome) : (s.endCommand o).hostData = s.hostData := rfl
@[simp] theorem State.endCommand_ok_noop : (s.endCommand .ok).noop = false := rfl
@[simp] theorem State.endCommand_ok_err : (s.endCommand .ok).err = false := rfl
@[simp] theorem State.endCommand_ok_errcode : (s.endCommand .ok).errcode = none := rfl
@[simp] theorem State.endCommand_noop_noop : (s.endCommand .noop).noop = true := rfl
@[simp] theorem State.endCommand_noop_err : (s.endCommand .noop).err = false := rfl
@[simp] theorem State.endCommand_noop_errcode : (s.endCommand .noop).errcode = none := rfl
@[simp] theorem State.endCommand_fail_noop (e : CmdError) : (s.endCommand (.fail e)).noop = false := rfl
@[simp] theorem State.endCommand_fail_err (e : CmdError) : (s.endCommand (.fail e)).err = true := rfl
@[simp] theorem State.endCommand_fail_errcode (e : CmdError) : (s.endCommand (.fail e)).errcode = some e := rfl

/-! ### PRIM_POLY through the resets -/

@[simp] theorem State.resetWith_prim (polys : Config.PrimPolys) : (State.resetWith polys).prim = polys := rfl
@[simp] theorem State.powerOn_prim : s.powerOn.prim = s.prim := rfl
@[simp] theorem State.abandon_prim : s.abandon.prim = s.prim := rfl
@[simp] theorem State.softReset_prim (ie : Bool) : (s.softReset ie).prim = s.prim := by
  unfold State.softReset
  split <;> rfl

end Sys2Proof.Machine
end

