-- ==== Sys2Proof/Laws/Memory.lean ====
section
/-! SUPPORT. The laws of the sparse memories: read after write, and that every operation keeps the canonical form. -/

namespace Sys2Proof.Machine

variable {w : Nat}

/-! ### Read after write -/

@[simp] theorem cellAt_nil (a : Nat) : cellAt ([] : List (Nat × BitVec w)) a = none := rfl

/-- What a write leaves at an address: the value written, or what stood there before. -/
theorem cellAt_putCell (m : List (Nat × BitVec w)) (a c : Nat) (v : BitVec w) :
    cellAt (putCell m a v) c = if c = a then some v else cellAt m c := by
  induction m with
  | nil => simp [putCell, cellAt]
  | cons cell m ih =>
    obtain ⟨b, u⟩ := cell
    unfold putCell
    split
    · simp [cellAt]
    · split
      · subst a
        by_cases hcb : c = b <;> simp [cellAt, hcb]
      · rename_i _ hab
        by_cases hcb : c = b
        · subst hcb
          simp [cellAt, Ne.symm hab]
        · simp [cellAt, hcb, ih]

/-- What a write of a list leaves at an address: the element of the list that lands there, or what stood before. -/
theorem cellAt_putCells (m : List (Nat × BitVec w)) (a c : Nat) (vs : List (BitVec w)) :
    cellAt (putCells m a vs) c = if a ≤ c then (vs[c - a]?).or (cellAt m c) else cellAt m c := by
  induction vs generalizing m a with
  | nil => simp [putCells]
  | cons v vs ih =>
    rw [putCells, ih, cellAt_putCell]
    rcases Nat.lt_trichotomy c a with h | rfl | h
    · simp [show ¬ a + 1 ≤ c by omega, show ¬ a ≤ c by omega, show c ≠ a by omega]
    · simp
    · simp [show a + 1 ≤ c by omega, show a ≤ c by omega, show c ≠ a by omega,
        show c - a = (c - (a + 1)) + 1 by omega]

/-! ### Canonical form -/

theorem risingFrom_cons (bound lo a : Nat) (v : BitVec w) (m : List (Nat × BitVec w)) :
    risingFrom bound lo ((a, v) :: m) = true ↔ lo ≤ a ∧ a < bound ∧ risingFrom bound (a + 1) m = true := by
  simp [risingFrom, and_assoc]

theorem risingFrom_mono {bound lo lo' : Nat} {m : List (Nat × BitVec w)} (h : risingFrom bound lo m = true)
    (hlo : lo' ≤ lo) : risingFrom bound lo' m = true := by
  cases m with
  | nil => rfl
  | cons cell m =>
    obtain ⟨a, v⟩ := cell
    rw [risingFrom_cons] at h ⊢
    exact ⟨hlo.trans h.1, h.2⟩

theorem risingFrom_putCell {bound lo a : Nat} {m : List (Nat × BitVec w)} (v : BitVec w)
    (h : risingFrom bound lo m = true) (hlo : lo ≤ a) (ha : a < bound) : risingFrom bound lo (putCell m a v) = true := by
  induction m generalizing lo with
  | nil => simp [putCell, risingFrom, hlo, ha]
  | cons cell m ih =>
    obtain ⟨b, u⟩ := cell
    rw [risingFrom_cons] at h
    unfold putCell
    split
    · rw [risingFrom_cons, risingFrom_cons]
      exact ⟨hlo, ha, by omega, h.2.1, h.2.2⟩
    · split
      · subst a
        rw [risingFrom_cons]
        exact h
      · rw [risingFrom_cons]
        exact ⟨h.1, h.2.1, ih h.2.2 (by omega)⟩

theorem risingFrom_putCells {bound lo a : Nat} {m : List (Nat × BitVec w)} (vs : List (BitVec w))
    (h : risingFrom bound lo m = true) (hlo : lo ≤ a) (ha : a + vs.length ≤ bound) :
    risingFrom bound lo (putCells m a vs) = true := by
  induction vs generalizing m a with
  | nil => exact h
  | cons v vs ih =>
    simp only [List.length_cons] at ha
    exact ih (risingFrom_putCell v h hlo (by omega)) (by omega) (by omega)

/-- Nothing is listed below the lower bound of a canonical memory. -/
theorem cellAt_eq_none_of_lt {bound lo c : Nat} {m : List (Nat × BitVec w)} (h : risingFrom bound lo m = true)
    (hc : c < lo) : cellAt m c = none := by
  induction m generalizing lo with
  | nil => rfl
  | cons cell m ih =>
    obtain ⟨a, v⟩ := cell
    rw [risingFrom_cons] at h
    rw [cellAt, if_neg (by omega)]
    exact ih h.2.2 (by omega)

/-- Canonical memories that agree at every address are equal data. -/
theorem eq_of_cellAt_eq {bound lo : Nat} {m m' : List (Nat × BitVec w)} (h : risingFrom bound lo m = true)
    (h' : risingFrom bound lo m' = true) (heq : ∀ a, cellAt m a = cellAt m' a) : m = m' := by
  induction m generalizing lo m' with
  | nil =>
    cases m' with
    | nil => rfl
    | cons cell m' => simpa [cellAt] using heq cell.1
  | cons cell m ih =>
    obtain ⟨a, v⟩ := cell
    cases m' with
    | nil => simpa [cellAt] using heq a
    | cons cell' m' =>
      obtain ⟨b, u⟩ := cell'
      rw [risingFrom_cons] at h h'
      have hab : a = b := by
        rcases Nat.lt_trichotomy a b with hlt | heq' | hlt
        · have := heq a
          rw [cellAt, if_pos rfl, cellAt, if_neg (by omega), cellAt_eq_none_of_lt h'.2.2 (by omega)] at this
          cases this
        · exact heq'
        · have := heq b
          rw [cellAt, if_neg (by omega), cellAt_eq_none_of_lt h.2.2 (by omega), cellAt, if_pos rfl] at this
          cases this
      subst hab
      have hvu : v = u := by simpa [cellAt] using heq a
      have htail : m = m' := by
        refine ih h.2.2 h'.2.2 fun c => ?_
        by_cases hca : c = a
        · subst hca
          rw [cellAt_eq_none_of_lt h.2.2 (by omega), cellAt_eq_none_of_lt h'.2.2 (by omega)]
        · simpa [cellAt, hca] using heq c
      rw [hvu, htail]

/-- A MemWrite inside DBUF keeps its canonical form. -/
theorem memWrite_keeps_wf {s : State} {a : Nat} {bytes : List Byte} (h : Memory.wf s.dbuf = true)
    (ha : a + bytes.length ≤ 256) : Memory.wf (s.memWrite a bytes).dbuf = true :=
  risingFrom_putCells bytes h (Nat.zero_le a) ha

/-- A write inside MAPRAM keeps its canonical form. -/
theorem mapWrite_keeps_wf {s : State} {i : Nat} {entries : List (BitVec 6)} (h : MapRam.wf s.mapram = true)
    (hi : i + entries.length ≤ 64) : MapRam.wf (s.mapWrite i entries).mapram = true :=
  risingFrom_putCells entries h (Nat.zero_le i) hi

theorem reset_dbuf_wf : Memory.wf State.reset.dbuf = true := rfl

theorem reset_mapram_wf : MapRam.wf State.reset.mapram = true := rfl

/-! ### DBUF and MAPRAM -/

/-- What a DBUF byte reads as after a MemWrite. -/
theorem dbufByte_memWrite (s : State) (a c : Nat) (bytes : List Byte) :
    (s.memWrite a bytes).dbufByte c = if a ≤ c then (bytes[c - a]?).getD (s.dbufByte c) else s.dbufByte c := by
  simp only [State.dbufByte, State.memWrite_dbuf, State.memWrite_epoch, cellAt_putCells]
  split <;> simp [Option.getD_or]

/-- What a MAPRAM entry reads as after a write. -/
theorem mapEntry_mapWrite (s : State) (i c : Nat) (entries : List (BitVec 6)) :
    (s.mapWrite i entries).mapEntry c = if i ≤ c then (entries[c - i]?).getD (s.mapEntry c) else s.mapEntry c := by
  simp only [State.mapEntry, State.mapWrite_mapram, State.mapWrite_epoch, cellAt_putCells]
  split <;> simp [Option.getD_or]

/-- DBUF is read from its bytes and the power-on epoch alone. -/
theorem dbufByte_congr {s t : State} (hd : t.dbuf = s.dbuf) (he : t.epoch = s.epoch) (a : Nat) :
    t.dbufByte a = s.dbufByte a := by
  simp [State.dbufByte, hd, he]

/-- MAPRAM is read from its entries and the power-on epoch alone. -/
theorem mapEntry_congr {s t : State} (hm : t.mapram = s.mapram) (he : t.epoch = s.epoch) (i : Nat) :
    t.mapEntry i = s.mapEntry i := by
  simp [State.mapEntry, hm, he]

/-- MemRead depends on DBUF and the power-on epoch alone. -/
theorem memRead_congr {s t : State} (hd : t.dbuf = s.dbuf) (he : t.epoch = s.epoch) (a n : Nat) :
    t.memRead a n = s.memRead a n := by
  induction n generalizing a with
  | zero => rfl
  | succ n ih => rw [State.memRead, State.memRead, ih, dbufByte_congr hd he]

@[simp] theorem length_memRead (s : State) (a n : Nat) : (s.memRead a n).length = n := by
  induction n generalizing a with
  | zero => rfl
  | succ n ih => simp [State.memRead, ih]

/-- The elements of a MemRead. -/
theorem getElem?_memRead (s : State) (a n j : Nat) :
    (s.memRead a n)[j]? = if j < n then some (s.dbufByte (a + j)) else none := by
  induction n generalizing a j with
  | zero => simp [State.memRead]
  | succ n ih =>
    cases j with
    | zero => simp [State.memRead]
    | succ j =>
      simp only [State.memRead, List.getElem?_cons_succ, ih, Nat.add_lt_add_iff_right]
      rw [show a + 1 + j = a + (j + 1) by omega]

/-- A MemRead is the list of its bytes. -/
theorem memRead_eq_map (s : State) (a n : Nat) :
    s.memRead a n = (List.range n).map fun j => s.dbufByte (a + j) := by
  apply List.ext_getElem?
  intro j
  rw [getElem?_memRead]
  by_cases h : j < n <;> simp [h]

end Sys2Proof.Machine
end

