-- ==== Sys2Proof/Laws/Ops.lean ====
section
/-! SUPPORT. What each shared operation does, said once: bits, packed bytes, range checks, the end of a command. -/

namespace Sys2Proof.Machine

/-! ### Bits -/

/-- A bit of the vector after one bit was set (R132). -/
theorem getLsbD_setBit (v : BitVec 64) (i p : Nat) (b : Bool) (hp : p < 64) :
    (setBit v i b).getLsbD p = if p = i then b else v.getLsbD p := by
  unfold setBit
  by_cases hpi : p = i
  · subst hpi
    cases b <;> simp [hp]
  · cases b <;> simp [hp, hpi]

theorem getLsbD_scatterBits_succ (map : Nat → Nat) (vin : BitVec 64) (n p : Nat) (hp : p < 64) :
    (scatterBits map vin (n + 1)).getLsbD p =
      if p = map n then vin.getLsbD n else (scatterBits map vin n).getLsbD p :=
  getLsbD_setBit _ _ _ _ hp

/-- A bit of a bulk set: the value of the last logical index that maps to it, or 0 (R138, R143). -/
theorem getLsbD_scatterBits (map : Nat → Nat) (vin : BitVec 64) (n p : Nat) (hp : p < 64) :
    (scatterBits map vin n).getLsbD p =
      match (List.range n).reverse.find? (fun i => map i == p) with
      | some i => vin.getLsbD i
      | none => false := by
  induction n with
  | zero => simp [scatterBits]
  | succ n ih =>
    rw [getLsbD_scatterBits_succ _ _ _ _ hp, List.range_succ, List.reverse_append]
    by_cases h : map n = p
    · simp [h]
    · simp [h, ih, Ne.symm h]

/-- A bit of a bulk get: the mapped bit below the count, 0 from there on (R139). -/
theorem getLsbD_gatherBits (map : Nat → Nat) (bv : BitVec 64) (n p : Nat) (hp : p < 64) :
    (gatherBits map bv n).getLsbD p = (decide (p < n) && bv.getLsbD (map p)) := by
  induction n with
  | zero => simp [gatherBits]
  | succ n ih =>
    rw [gatherBits, getLsbD_setBit _ _ _ _ hp, ih]
    by_cases h : p = n
    · simp [h]
    · simp [h, show (p < n + 1) = (p < n) by simp; omega]

/-- A bit of packed bytes (R140). -/
theorem getLsbD_packBytes (bytes : List Byte) (p : Nat) (hp : p < 64) :
    (packBytes bytes).getLsbD p = (bytes.getD (p / 8) 0#8).getLsbD (p % 8) := by
  induction bytes generalizing p with
  | nil => simp [packBytes]
  | cons b bytes ih =>
    by_cases h : p < 8
    · simp [packBytes, hp, h, Nat.div_eq_of_lt h, Nat.mod_eq_of_lt h]
    · have hdiv : p / 8 = (p - 8) / 8 + 1 := by omega
      have hmod : p % 8 = (p - 8) % 8 := by omega
      rw [packBytes, BitVec.getLsbD_or, BitVec.getLsbD_shiftLeft, ih (p - 8) (by omega), hdiv, hmod]
      simp [hp, h, BitVec.getLsbD_of_ge b p (by omega)]

/-- Byte j of a packed vector. -/
theorem extract_packBytes (bytes : List Byte) (j : Nat) (hj : j < 8) :
    (packBytes bytes).extractLsb' (8 * j) 8 = bytes.getD j 0#8 := by
  apply BitVec.eq_of_getLsbD_eq
  intro i hi
  rw [BitVec.getLsbD_extractLsb', getLsbD_packBytes _ _ (by omega)]
  simp [hi, show (8 * j + i) / 8 = j by omega, show (8 * j + i) % 8 = i by omega]

/-! ### Checks -/

theorem rangeOk_iff (a : Byte) (n : Nat) : rangeOk a n = true ↔ a.toNat + n ≤ 256 := by simp [rangeOk]

theorem mapOk_iff (s : State) (mp : Mapping) (count : Nat) :
    s.mapOk mp count = true ↔ ∀ i, i < count → s.mapIndex mp i < s.bvBits := by
  simp [State.mapOk]

theorem gfSizeOk_iff (m : Nat) : gfSizeOk m = true ↔ 3 ≤ m ∧ m ≤ 8 := by simp [gfSizeOk]

theorem isElement_iff (m : Nat) (v : Byte) : isElement m v = true ↔ v.toNat < 2 ^ m := by simp [isElement]

/-- The fields of the core depend on PRIM_POLY alone. -/
theorem field_congr {s t : State} (h : t.prim = s.prim) (m : Nat) : t.field m = s.field m := by
  simp [State.field, h]

@[simp] theorem field_m (s : State) (m : Nat) : (s.field m).m = m := rfl

@[simp] theorem rsField_m (s : State) : s.rsField.m = s.rsM.toNat := rfl

theorem rsConfigOk_iff (m k r : Nat) :
    rsConfigOk m k r = true ↔ 3 ≤ m ∧ m ≤ 8 ∧ 1 ≤ r ∧ r ≤ 8 ∧ 1 ≤ k ∧ k + r ≤ 2 ^ m - 1 := by
  simp [rsConfigOk]

/-- A mapping index below 64 whenever the logical index is. -/
theorem mapIndex_lt (s : State) (mp : Mapping) (i : Nat) (hi : i < 64) : s.mapIndex mp i < 64 := by
  cases mp with
  | ident => exact hi
  | fixed d => exact (Config.perm d (BitVec.ofNat 6 i)).isLt
  | user => exact (s.mapEntry i).isLt

/-- No two logical indices of a fixed table map to one bit (R6, U14). -/
theorem mapIndex_fixed_injective (s : State) (d : Rotation) (i j : Nat) (hi : i < 64) (hj : j < 64)
    (h : s.mapIndex (.fixed d) i = s.mapIndex (.fixed d) j) : i = j := by
  have h' : Config.perm d (BitVec.ofNat 6 i) = Config.perm d (BitVec.ofNat 6 j) := BitVec.eq_of_toNat_eq h
  have h'' := congrArg BitVec.toNat ((Config.perm d).injective h')
  simpa [Nat.mod_eq_of_lt hi, Nat.mod_eq_of_lt hj] using h''

/-! ### The end of a command -/

theorem complete_eq_next {s t : State} : s.complete = .next t ↔ t = s.endCommand .ok := by
  simp [State.complete, eq_comm]

theorem completeNoop_eq_next {s t : State} : s.completeNoop = .next t ↔ t = s.endCommand .noop := by
  simp [State.completeNoop, eq_comm]

theorem failWith_eq_next {s t : State} {e : CmdError} : s.failWith e = .next t ↔ t = s.endCommand (.fail e) := by
  simp [State.failWith, eq_comm]

end Sys2Proof.Machine
end

