-- ==== Sys2Proof/Laws/Exec.lean ====
section
/-! SUPPORT. What each command can do, said once: if its meaning answers a next state, which of its cases holds. The
cases are those of the command's rule, in the order of spec/60_exceptions.md R256. -/

namespace Sys2Proof.Machine

variable {s t : State}

theorem execNop_cases (h : execNop s = .next t) : t = s.endCommand .ok := complete_eq_next.1 h

theorem execBvcfg_cases {nbits : Byte} (h : execBvcfg nbits s = .next t) :
    (bvSizeOk nbits.toNat = true ∧ t = (s.setBvConfig true (nbits.setWidth 7)).endCommand .ok) ∨
    (bvSizeOk nbits.toNat = false ∧ t = (s.setBvConfig false 0#7).endCommand (.fail .cfg)) := by
  unfold execBvcfg at h
  cases hc : bvSizeOk nbits.toNat <;> simp [hc, failWith_eq_next, complete_eq_next] at h ⊢ <;> exact h

theorem execBvsetbit_cases {v : Bool} {index : Byte} (h : execBvsetbit v index s = .next t) :
    (s.bvValid = false ∧ t = s.endCommand (.fail .nocfg)) ∨
    (s.bvValid = true ∧ s.bvBits ≤ index.toNat ∧ t = s.endCommand (.fail .range)) ∨
    (s.bvValid = true ∧ index.toNat < s.bvBits ∧ t = (s.setBv (setBit s.bv index.toNat v)).endCommand .ok) := by
  unfold execBvsetbit at h
  cases hv : s.bvValid <;> simp only [hv] at h
  · exact .inl ⟨rfl, failWith_eq_next.1 h⟩
  · by_cases hr : s.bvBits ≤ index.toNat
    · exact .inr (.inl ⟨rfl, hr, failWith_eq_next.1 (by simpa [hr] using h)⟩)
    · exact .inr (.inr ⟨rfl, by omega, complete_eq_next.1 (by simpa [hr] using h)⟩)

theorem execBvgetbit_cases {index : Byte} (h : execBvgetbit index s = .next t) :
    (s.bvValid = false ∧ t = s.endCommand (.fail .nocfg)) ∨
    (s.bvValid = true ∧ s.bvBits ≤ index.toNat ∧ t = s.endCommand (.fail .range)) ∨
    (s.bvValid = true ∧ index.toNat < s.bvBits ∧
      t = (s.setResult ((flagBit (s.bv.getLsbD index.toNat)).setWidth 32) 0#32).endCommand .ok) := by
  unfold execBvgetbit at h
  cases hv : s.bvValid <;> simp only [hv] at h
  · exact .inl ⟨rfl, failWith_eq_next.1 h⟩
  · by_cases hr : s.bvBits ≤ index.toNat
    · exact .inr (.inl ⟨rfl, hr, failWith_eq_next.1 (by simpa [hr] using h)⟩)
    · exact .inr (.inr ⟨rfl, by omega, complete_eq_next.1 (by simpa [hr] using h)⟩)

/-- The checks that the four bulk commands share (R138 to R141): NOCFG, then the no-op, then RANGE, then the effect. -/
theorem bulk_cases {capacity count : Nat} {fits : Bool} {u : State}
    (h : (if !s.bvValid then s.failWith .nocfg
      else if capacity < count then s.completeNoop
      else if !fits then s.failWith .range
      else u.complete) = .next t) :
    (s.bvValid = false ∧ t = s.endCommand (.fail .nocfg)) ∨
    (s.bvValid = true ∧ capacity < count ∧ t = s.endCommand .noop) ∨
    (s.bvValid = true ∧ count ≤ capacity ∧ fits = false ∧ t = s.endCommand (.fail .range)) ∨
    (s.bvValid = true ∧ count ≤ capacity ∧ fits = true ∧ t = u.endCommand .ok) := by
  cases hv : s.bvValid <;> simp only [hv] at h
  · exact .inl ⟨rfl, failWith_eq_next.1 h⟩
  · by_cases hc : capacity < count
    · exact .inr (.inl ⟨rfl, hc, completeNoop_eq_next.1 (by simpa [hc] using h)⟩)
    · cases fits
      · exact .inr (.inr (.inl ⟨rfl, by omega, rfl, failWith_eq_next.1 (by simpa [hc] using h)⟩))
      · exact .inr (.inr (.inr ⟨rfl, by omega, rfl, complete_eq_next.1 (by simpa [hc] using h)⟩))

theorem execBvsetbits_cases {sel : Selector} {count : Byte} (h : execBvsetbits sel count s = .next t) :
    (selectorMapping sel = none ∧ t = s.endCommand (.fail .illegal)) ∨
    ∃ mp, selectorMapping sel = some mp ∧
      ((s.bvValid = false ∧ t = s.endCommand (.fail .nocfg)) ∨
      (s.bvValid = true ∧ s.bvBits < count.toNat ∧ t = s.endCommand .noop) ∨
      (s.bvValid = true ∧ count.toNat ≤ s.bvBits ∧ s.mapOk mp count.toNat = false ∧
        t = s.endCommand (.fail .range)) ∨
      (s.bvValid = true ∧ count.toNat ≤ s.bvBits ∧ s.mapOk mp count.toNat = true ∧
        t = (s.setBv (scatterBits (s.mapIndex mp) s.vin count.toNat)).endCommand .ok)) := by
  unfold execBvsetbits at h
  cases hm : selectorMapping sel with
  | none => simp only [hm] at h; exact .inl ⟨rfl, failWith_eq_next.1 h⟩
  | some mp => simp only [hm] at h; exact .inr ⟨mp, rfl, bulk_cases h⟩

theorem execBvgetbits_cases {sel : Selector} {count : Byte} (h : execBvgetbits sel count s = .next t) :
    (selectorMapping sel = none ∧ t = s.endCommand (.fail .illegal)) ∨
    ∃ mp, selectorMapping sel = some mp ∧
      ((s.bvValid = false ∧ t = s.endCommand (.fail .nocfg)) ∨
      (s.bvValid = true ∧ s.bvBits < count.toNat ∧ t = s.endCommand .noop) ∨
      (s.bvValid = true ∧ count.toNat ≤ s.bvBits ∧ s.mapOk mp count.toNat = false ∧
        t = s.endCommand (.fail .range)) ∨
      (s.bvValid = true ∧ count.toNat ≤ s.bvBits ∧ s.mapOk mp count.toNat = true ∧
        t = (s.setVout (gatherBits (s.mapIndex mp) s.bv count.toNat)).endCommand .ok)) := by
  unfold execBvgetbits at h
  cases hm : selectorMapping sel with
  | none => simp only [hm] at h; exact .inl ⟨rfl, failWith_eq_next.1 h⟩
  | some mp => simp only [hm] at h; exact .inr ⟨mp, rfl, bulk_cases h⟩

theorem execBvsetbytes_cases {count src : Byte} (h : execBvsetbytes count src s = .next t) :
    (s.bvValid = false ∧ t = s.endCommand (.fail .nocfg)) ∨
    (s.bvValid = true ∧ s.bvBytes < count.toNat ∧ t = s.endCommand .noop) ∨
    (s.bvValid = true ∧ count.toNat ≤ s.bvBytes ∧ rangeOk src count.toNat = false ∧
      t = s.endCommand (.fail .range)) ∨
    (s.bvValid = true ∧ count.toNat ≤ s.bvBytes ∧ rangeOk src count.toNat = true ∧
      t = (s.setBv (packBytes (s.memRead src.toNat count.toNat))).endCommand .ok) :=
  bulk_cases h

theorem execBvgetbytes_cases {count dst : Byte} (h : execBvgetbytes count dst s = .next t) :
    (s.bvValid = false ∧ t = s.endCommand (.fail .nocfg)) ∨
    (s.bvValid = true ∧ s.bvBytes < count.toNat ∧ t = s.endCommand .noop) ∨
    (s.bvValid = true ∧ count.toNat ≤ s.bvBytes ∧ rangeOk dst count.toNat = false ∧
      t = s.endCommand (.fail .range)) ∨
    (s.bvValid = true ∧ count.toNat ≤ s.bvBytes ∧ rangeOk dst count.toNat = true ∧
      t = (s.memWrite dst.toNat ((List.range count.toNat).map s.bvByte)).endCommand .ok) :=
  bulk_cases h

/-- The shape of a command with one check: it fails with `e`, or has its effect. -/
theorem guard_cases {bad : Bool} {e : CmdError} {u : State}
    (h : (if bad then s.failWith e else u.complete) = .next t) :
    (bad = true ∧ t = s.endCommand (.fail e)) ∨ (bad = false ∧ t = u.endCommand .ok) := by
  cases bad
  · exact .inr ⟨rfl, complete_eq_next.1 (by simpa using h)⟩
  · exact .inl ⟨rfl, failWith_eq_next.1 (by simpa using h)⟩

theorem execCrc16_cases {len src : Byte} (h : execCrc16 len src s = .next t) :
    (rangeOk src len.toNat = false ∧ t = s.endCommand (.fail .range)) ∨
    (rangeOk src len.toNat = true ∧
      t = (s.setResult ((crc16 (s.memRead src.toNat len.toNat)).setWidth 32) 0#32).endCommand .ok) := by
  have := guard_cases h
  simpa using this

theorem execCrc16w_cases {len dst src : Byte} (h : execCrc16w len dst src s = .next t) :
    ((rangeOk src len.toNat && rangeOk dst 2) = false ∧ t = s.endCommand (.fail .range)) ∨
    ((rangeOk src len.toNat && rangeOk dst 2) = true ∧
      t = ((s.memWrite dst.toNat (crcBytes (crc16 (s.memRead src.toNat len.toNat)))).setResult
        ((crc16 (s.memRead src.toNat len.toNat)).setWidth 32) 0#32).endCommand .ok) := by
  have := guard_cases h
  cases hs : rangeOk src len.toNat <;> cases hd : rangeOk dst 2 <;> simpa [hs, hd] using this

theorem execGfmul_cases {m : BitVec 4} {a b : Byte} (h : execGfmul m a b s = .next t) :
    ((gfSizeOk m.toNat && isElement m.toNat a && isElement m.toNat b) = false ∧
      t = s.endCommand (.fail .operand)) ∨
    ((gfSizeOk m.toNat && isElement m.toNat a && isElement m.toNat b) = true ∧
      t = (s.setResult ((gfMul (s.field m.toNat) a b).setWidth 32) 0#32).endCommand .ok) := by
  unfold execGfmul at h
  cases hm : gfSizeOk m.toNat <;> cases ha : isElement m.toNat a <;> cases hb : isElement m.toNat b <;>
    simp [hm, ha, hb, failWith_eq_next, complete_eq_next] at h ⊢ <;> exact h

theorem execGfdiv_cases {m : BitVec 4} {a b : Byte} (h : execGfdiv m a b s = .next t) :
    ((gfSizeOk m.toNat && isElement m.toNat a && isElement m.toNat b) = false ∧
      t = s.endCommand (.fail .operand)) ∨
    ((gfSizeOk m.toNat && isElement m.toNat a && isElement m.toNat b) = true ∧ b = 0#8 ∧
      t = s.endCommand (.fail .zero)) ∨
    ((gfSizeOk m.toNat && isElement m.toNat a && isElement m.toNat b) = true ∧ b ≠ 0#8 ∧
      t = (s.setResult ((gfDiv (s.field m.toNat) a b).setWidth 32) 0#32).endCommand .ok) := by
  unfold execGfdiv at h
  by_cases hz : b = 0#8 <;>
  cases hm : gfSizeOk m.toNat <;> cases ha : isElement m.toNat a <;> cases hb : isElement m.toNat b <;>
    simp_all [failWith_eq_next, complete_eq_next]

theorem execGfexp_cases {m : BitVec 4} {e : Byte} (h : execGfexp m e s = .next t) :
    (gfSizeOk m.toNat = false ∧ t = s.endCommand (.fail .operand)) ∨
    (gfSizeOk m.toNat = true ∧
      t = (s.setResult ((alphaPow (s.field m.toNat) e.toNat).setWidth 32) 0#32).endCommand .ok) := by
  have := guard_cases h
  simpa using this

theorem execGflog_cases {m : BitVec 4} {x : Byte} (h : execGflog m x s = .next t) :
    ((gfSizeOk m.toNat && isElement m.toNat x) = false ∧ t = s.endCommand (.fail .operand)) ∨
    ((gfSizeOk m.toNat && isElement m.toNat x) = true ∧ x = 0#8 ∧ t = s.endCommand (.fail .zero)) ∨
    ((gfSizeOk m.toNat && isElement m.toNat x) = true ∧ x ≠ 0#8 ∧
      t = (s.setResult (BitVec.ofNat 32 (indexOf (s.field m.toNat) x)) 0#32).endCommand .ok) := by
  unfold execGflog at h
  by_cases hz : x = 0#8 <;> cases hm : gfSizeOk m.toNat <;> cases hx : isElement m.toNat x <;>
    simp_all [failWith_eq_next, complete_eq_next]

theorem execRscfg_cases {m k r : Byte} (h : execRscfg m k r s = .next t) :
    (rsConfigOk m.toNat k.toNat r.toNat = true ∧ t = (s.setRsConfig true (m.setWidth 4) k r).endCommand .ok) ∨
    (rsConfigOk m.toNat k.toNat r.toNat = false ∧ t = (s.setRsConfig false 0#4 0#8 0#8).endCommand (.fail .cfg)) := by
  unfold execRscfg at h
  cases hc : rsConfigOk m.toNat k.toNat r.toNat <;>
    simp [hc, failWith_eq_next, complete_eq_next] at h ⊢ <;> exact h

/-- The checks that RSENC and RSCOR share (R197, R206): NOCFG, then RANGE, then OPERAND, then the effect. -/
theorem block_cases {fits symbols : Bool} {u : State}
    (h : (if !s.rsValid then s.failWith .nocfg
      else if !fits then s.failWith .range
      else if !symbols then s.failWith .operand
      else u.complete) = .next t) :
    (s.rsValid = false ∧ t = s.endCommand (.fail .nocfg)) ∨
    (s.rsValid = true ∧ fits = false ∧ t = s.endCommand (.fail .range)) ∨
    (s.rsValid = true ∧ fits = true ∧ symbols = false ∧ t = s.endCommand (.fail .operand)) ∨
    (s.rsValid = true ∧ fits = true ∧ symbols = true ∧ t = u.endCommand .ok) := by
  cases hv : s.rsValid <;> cases fits <;> cases symbols <;>
    simp [hv, failWith_eq_next, complete_eq_next] at h ⊢ <;> exact h

theorem execRsenc_cases {dst src : Byte} (h : execRsenc dst src s = .next t) :
    (s.rsValid = false ∧ t = s.endCommand (.fail .nocfg)) ∨
    (s.rsValid = true ∧ (rangeOk src s.rsK.toNat && rangeOk dst s.rsR.toNat) = false ∧
      t = s.endCommand (.fail .range)) ∨
    (s.rsValid = true ∧ (rangeOk src s.rsK.toNat && rangeOk dst s.rsR.toNat) = true ∧
      (s.memRead src.toNat s.rsK.toNat).all (isElement s.rsM.toNat) = false ∧ t = s.endCommand (.fail .operand)) ∨
    (s.rsValid = true ∧ (rangeOk src s.rsK.toNat && rangeOk dst s.rsR.toNat) = true ∧
      (s.memRead src.toNat s.rsK.toNat).all (isElement s.rsM.toNat) = true ∧
      t = (s.memWrite dst.toNat (rsParity s.rsField s.rsR.toNat (s.memRead src.toNat s.rsK.toNat))).endCommand .ok) := by
  apply block_cases
  simpa [execRsenc, Bool.not_and] using h

theorem execRscor_cases {addr : Byte} (h : execRscor addr s = .next t) :
    (s.rsValid = false ∧ t = s.endCommand (.fail .nocfg)) ∨
    (s.rsValid = true ∧ rangeOk addr (s.rsK.toNat + s.rsR.toNat) = false ∧ t = s.endCommand (.fail .range)) ∨
    (s.rsValid = true ∧ rangeOk addr (s.rsK.toNat + s.rsR.toNat) = true ∧
      (s.memRead addr.toNat (s.rsK.toNat + s.rsR.toNat)).all (isElement s.rsM.toNat) = false ∧
      t = s.endCommand (.fail .operand)) ∨
    (s.rsValid = true ∧ rangeOk addr (s.rsK.toNat + s.rsR.toNat) = true ∧
      (s.memRead addr.toNat (s.rsK.toNat + s.rsR.toNat)).all (isElement s.rsM.toNat) = true ∧
      t = (s.applyVerdict addr.toNat (rsDecode s.rsField s.rsR.toNat
        (s.memRead addr.toNat (s.rsK.toNat + s.rsR.toNat)))).endCommand .ok) :=
  block_cases h

end Sys2Proof.Machine
end

