-- ==== Sys2Proof/Laws/PerInstr.lean ====
section
/-! SUPPORT. Statements about every command, one lemma for each constructor of Instr. -/

namespace Sys2Proof.Laws

theorem append_and {n m : Nat} (x x' : BitVec n) (y y' : BitVec m) :
    (x ++ y) &&& (x' ++ y') = (x &&& x') ++ (y &&& y') := by
  apply BitVec.eq_of_getLsbD_eq
  intro i _
  simp only [BitVec.getLsbD_and, BitVec.getLsbD_append]
  split <;> rfl

/-- Masking a command word masks each of its fields (R90). -/
theorem mkWord_and (a a' : BitVec 5) (b b' : BitVec 3) (c c' d d' e e' : Byte) :
    mkWord a b c d e &&& mkWord a' b' c' d' e' = mkWord (a &&& a') (b &&& b') (c &&& c') (d &&& d') (e &&& e') := by
  show (a ++ b ++ c ++ d ++ e : BitVec (5 + 3 + 8 + 8 + 8)) &&& (a' ++ b' ++ c' ++ d' ++ e') = _
  simp only [append_and]
  rfl

namespace FixedBits

/-- The encoding of a command carries the fixed bits of its row of the opcode table (R94). -/
def Statement (i : Instr) : Prop := encode i &&& i.row.1 = i.row.2

/-- The row's mask, field by field, picks the row's match out of a command word. -/
theorem of_fields {i : Instr} {a a' : BitVec 5} {b b' : BitVec 3} {c c' d d' e e' : Byte}
    (henc : encode i = mkWord a b c d e) (hmask : i.row.1 = mkWord a' b' c' d' e')
    (hmatch : mkWord (a &&& a') (b &&& b') (c &&& c') (d &&& d') (e &&& e') = i.row.2) : Statement i := by
  rw [Statement, henc, hmask, mkWord_and, hmatch]

theorem nop : Statement (.nop) :=
  of_fields (a' := 0x1F) (b' := 7) (c' := 0xFF) (d' := 0xFF) (e' := 0xFF) rfl rfl
    rfl

theorem bvcfg (nbits : Byte) : Statement (.bvcfg nbits) :=
  of_fields (a' := 0x1F) (b' := 7) (c' := 0#8) (d' := 0xFF) (e' := 0xFF) rfl rfl
    (by simp only [BitVec.and_zero]; rfl)

theorem bvsetbit (v : Bool) (index : Byte) : Statement (.bvsetbit v index) :=
  of_fields (a' := 0x1F) (b' := 7) (c' := 0xFF) (d' := 0xFE) (e' := 0#8) rfl rfl
    (by rw [BitVec.and_zero]; cases v <;> rfl)

theorem bvgetbit (index : Byte) : Statement (.bvgetbit index) :=
  of_fields (a' := 0x1F) (b' := 7) (c' := 0xFF) (d' := 0xFF) (e' := 0#8) rfl rfl
    (by simp only [BitVec.and_zero]; rfl)

theorem bvsetbits (sel : Selector) (count : Byte) : Statement (.bvsetbits sel count) :=
  of_fields (a' := 0x1F) (b' := 0#3) (c' := 0#8) (d' := 0xFF) (e' := 0xFF) rfl rfl
    (by simp only [BitVec.and_zero]; rfl)

theorem bvgetbits (sel : Selector) (count : Byte) : Statement (.bvgetbits sel count) :=
  of_fields (a' := 0x1F) (b' := 0#3) (c' := 0#8) (d' := 0xFF) (e' := 0xFF) rfl rfl
    (by simp only [BitVec.and_zero]; rfl)

theorem bvsetbytes (count src : Byte) : Statement (.bvsetbytes count src) :=
  of_fields (a' := 0x1F) (b' := 7) (c' := 0#8) (d' := 0xFF) (e' := 0#8) rfl rfl
    (by simp only [BitVec.and_zero]; rfl)

theorem bvgetbytes (count dst : Byte) : Statement (.bvgetbytes count dst) :=
  of_fields (a' := 0x1F) (b' := 7) (c' := 0#8) (d' := 0#8) (e' := 0xFF) rfl rfl
    (by simp only [BitVec.and_zero]; rfl)

theorem crc16 (len src : Byte) : Statement (.crc16 len src) :=
  of_fields (a' := 0x1F) (b' := 7) (c' := 0#8) (d' := 0xFF) (e' := 0#8) rfl rfl
    (by simp only [BitVec.and_zero]; rfl)

theorem crc16w (len dst src : Byte) : Statement (.crc16w len dst src) :=
  of_fields (a' := 0x1F) (b' := 7) (c' := 0#8) (d' := 0#8) (e' := 0#8) rfl rfl
    (by simp only [BitVec.and_zero]; rfl)

/-- The field size of a GF command leaves F2[7:4] zero (R96). -/
theorem gfSize_and (m : BitVec 4) : m.setWidth 8 &&& 0xF0 = (0 : Byte) := by
  revert m; decide

theorem gfmul (m : BitVec 4) (a b : Byte) : Statement (.gfmul m a b) :=
  of_fields (a' := 0x1F) (b' := 7) (c' := 0xF0) (d' := 0#8) (e' := 0#8) rfl rfl
    (by rw [gfSize_and]; simp only [BitVec.and_zero]; rfl)

theorem gfdiv (m : BitVec 4) (a b : Byte) : Statement (.gfdiv m a b) :=
  of_fields (a' := 0x1F) (b' := 7) (c' := 0xF0) (d' := 0#8) (e' := 0#8) rfl rfl
    (by rw [gfSize_and]; simp only [BitVec.and_zero]; rfl)

theorem gfexp (m : BitVec 4) (e : Byte) : Statement (.gfexp m e) :=
  of_fields (a' := 0x1F) (b' := 7) (c' := 0xF0) (d' := 0#8) (e' := 0xFF) rfl rfl
    (by rw [gfSize_and]; simp only [BitVec.and_zero]; rfl)

theorem gflog (m : BitVec 4) (x : Byte) : Statement (.gflog m x) :=
  of_fields (a' := 0x1F) (b' := 7) (c' := 0xF0) (d' := 0xFF) (e' := 0#8) rfl rfl
    (by rw [gfSize_and]; simp only [BitVec.and_zero]; rfl)

theorem rscfg (m k r : Byte) : Statement (.rscfg m k r) :=
  of_fields (a' := 0x1F) (b' := 7) (c' := 0#8) (d' := 0#8) (e' := 0#8) rfl rfl
    (by simp only [BitVec.and_zero]; rfl)

theorem rsenc (dst src : Byte) : Statement (.rsenc dst src) :=
  of_fields (a' := 0x1F) (b' := 7) (c' := 0xFF) (d' := 0#8) (e' := 0#8) rfl rfl
    (by simp only [BitVec.and_zero]; rfl)

theorem rscor (addr : Byte) : Statement (.rscor addr) :=
  of_fields (a' := 0x1F) (b' := 7) (c' := 0xFF) (d' := 0xFF) (e' := 0#8) rfl rfl
    (by simp only [BitVec.and_zero]; rfl)

end FixedBits

end Sys2Proof.Laws
end

