-- ==== Sys2Proof/Laws/Step.lean ====
section
/-! SUPPORT. What the decoder, the host's step and the machine's step can do, said once. -/

namespace Sys2Proof.Machine

variable {s t : State}

/-- An access goes through exactly when it is an aligned 32-bit word inside the window (R61, R68). -/
theorem accessProblem_eq_none_iff (width : AccessWidth) (offset : Word) :
    accessProblem width offset = none ↔ offset.toNat < 0x1000 ∧ width = .word ∧ offset.toNat % 4 = 0 := by
  unfold accessProblem
  split
  · simp; omega
  · split <;> simp_all

/-- It is the engine's turn (R122, R288). -/
theorem engineTurn_iff : s.engineTurn = true ↔ s.busy = true ∧ (s.inputs = [] ∨ s.delay = 0) := by
  simp [State.engineTurn]

/-- What the host's step can do: nothing, a read, a write, one turn of WAIT, a power-on reset. -/
theorem hostStep_cases (h : s.hostStep = .next t) :
    (s.inputs = [] ∧ t = s) ∨
    (∃ width offset rest, s.inputs = .read width offset :: rest ∧ accessProblem width offset = none ∧
      t = ((s.setInputs rest).tick).hostRead (locate offset.toNat)) ∨
    (∃ width offset data rest, s.inputs = .write width offset data :: rest ∧ accessProblem width offset = none ∧
      t = ((s.setInputs rest).tick).hostWrite (locate offset.toNat) data) ∨
    (∃ rest, s.inputs = .wait :: rest ∧
      t = ((if s.busy then s else s.setInputs rest).tick).hostRead .status) ∨
    (∃ rest, s.inputs = .powerOnReset :: rest ∧ t = (s.setInputs rest).powerOn) := by
  unfold State.hostStep at h
  split at h
  · exact .inl ⟨‹_›, by cases h; rfl⟩
  · rename_i width offset rest hin
    split at h
    · cases h
    · cases h
    · cases h
      exact .inr (.inl ⟨width, offset, rest, hin, ‹_›, rfl⟩)
  · rename_i width offset data rest hin
    split at h
    · cases h
    · cases h
    · cases h
      exact .inr (.inr (.inl ⟨width, offset, data, rest, hin, ‹_›, rfl⟩))
  · cases h
    exact .inr (.inr (.inr (.inl ⟨_, ‹_›, rfl⟩)))
  · cases h
    exact .inr (.inr (.inr (.inr ⟨_, ‹_›, rfl⟩)))

/-- What the engine's step can do: the command decoded, or the failure ILLEGAL. -/
theorem engineStep_cases (h : engineStep s = .next t) :
    (∃ i, decode s.cmdl = .ok i ∧ exec i s = .next t) ∨
    (∃ e, decode s.cmdl = .error e ∧ t = s.endCommand (.fail .illegal)) := by
  unfold engineStep at h
  split at h
  · exact .inl ⟨_, ‹_›, h⟩
  · exact .inr ⟨_, ‹_›, failWith_eq_next.1 h⟩

/-- What a step can do: the engine's step on its turn, and the host's otherwise. -/
theorem step_cases (h : step s = .next t) :
    (s.engineTurn = true ∧ engineStep s = .next t) ∨ (s.engineTurn = false ∧ s.hostStep = .next t) := by
  unfold step at h
  split at h
  · exact .inl ⟨‹_›, h⟩
  · rename_i ht
    exact .inr ⟨by simpa using ht, h⟩

/-- What a host read can do (R67, R285). -/
theorem hostRead_cases (s : State) (loc : Location) :
    (s.busy = true ∧ loc.drawnWhileBusy = true ∧
      s.hostRead loc = (s.setHostData (Config.busyRead s.draws)).nextDraw) ∨
    ((s.busy && loc.drawnWhileBusy) = false ∧ s.hostRead loc = s.setHostData (s.view loc)) := by
  unfold State.hostRead
  cases hb : s.busy <;> cases hd : loc.drawnWhileBusy <;> simp

/-- What a host write can do (R121, R286). -/
theorem hostWrite_cases (s : State) (loc : Location) (data : Word) :
    (s.busy = true ∧ loc.isOperand = true ∧ s.hostWrite loc data = s.dropWrite) ∨
    ((s.busy && loc.isOperand) = false ∧ s.hostWrite loc data = s.writeLocation loc data) := by
  unfold State.hostWrite
  cases hb : s.busy <;> cases hd : loc.isOperand <;> simp

/-- The word placed for the next step is the command in flight, and it is the engine's turn. -/
@[simp] theorem withFetchWord_engineTurn (s : State) (nbits w : Nat) : (s.withFetchWord nbits w).engineTurn = true := by
  simp [State.withFetchWord, State.engineTurn]

@[simp] theorem withFetchWord_cmdl (s : State) (nbits w : Nat) : (s.withFetchWord nbits w).cmdl = tableWord nbits w := rfl

end Sys2Proof.Machine
end

