-- ==== Sys2Proof/Tests/Slice0.lean ====
section
/-! SUPPORT. The model's own tests. Expected values are those of spec/95_test_vectors.md (the vector is named at each
test), and words are written out from the encoding of spec/30_encoding.md. The theorems `witness_…` show that the
hypotheses of a statement can all hold together. -/

namespace Sys2Proof.Machine

/-! ### Small states and views of one step -/

/-- What `f` says of the state a command ends in. -/
def got {α : Type} (i : Instr) (s : State) (f : State → α) : Option α :=
  match exec i s with
  | .next t => some (f t)
  | .fault _ => none
  | .refused _ => none

/-- What `f` says of the state one step leads to. -/
def gotStep {α : Type} (s : State) (f : State → α) : Option α :=
  match step s with
  | .next t => some (f t)
  | .fault _ => none
  | .refused _ => none

/-- STATUS and the two result registers. -/
def outcome (s : State) : Word × Word × Word := (s.view .status, s.view .res0, s.view .res1)

/-- STATUS and the two words of the vector. -/
def vectorOutcome (s : State) : Word × Word × Word := (s.view .status, s.view .bvd0, s.view .bvd1)

/-- Bytes from `a` on, in address order. -/
def bytesAt (s : State) (a n : Nat) : List Byte := (List.range n).map fun j => s.dbufByte (a + j)

/-- A vector of `len` bits with contents `v`. -/
def withBv (len : BitVec 7) (v : BitVec 64) : State := { State.reset with bvValid := true, bvLen := len, bv := v }

/-- A Reed-Solomon configuration with bytes in DBUF from `a` on. -/
def withRs (m : BitVec 4) (k r : Byte) (a : Nat) (bytes : List Byte) : State :=
  (State.reset.setRsConfig true m k r).memWrite a bytes

/-- The vector setup A of the spec, in a vector of 64 bits: the value in ARG1 and ARG0. -/
def withArgs (s : State) : State := { s with arg0 := 0x12345678#32, arg1 := 0x9ABCDEF0#32 }

/-- The mapping REV of the spec: entry i is 63 - i. -/
def withRev (s : State) : State := s.mapWrite 0 ((List.range 64).map fun i => BitVec.ofNat 6 (63 - i))

/-- The mapping of V-BV-33: entry 0 is 20 and entry i is i otherwise. -/
def withTwenty (s : State) : State := s.mapWrite 0 (20#6 :: (List.range 15).map fun i => BitVec.ofNat 6 (i + 1))

/-- A command in flight with one host access before the engine's step, and the host about to make it. -/
def facing (s : State) (a : HostAction) : State := { s with busy := true, delay := 1, inputs := [a] }

/-- An idle core with one host action pending. -/
def idleFacing (s : State) (a : HostAction) : State := { s with busy := false, inputs := [a] }

/-- The block of the payload of id 1234. -/
def block1234 : List Byte := [0xA1, 0x77, 0x3D, 0x30, 0xB9, 0x96, 0xD9, 0x6A]

/-! ### Well-formedness -/

theorem test_wellFormed_refuses_bvsetbits_sel6 : (Instr.bvsetbits .reserved6 64).wellFormed = false := by decide
theorem test_wellFormed_refuses_bvsetbits_sel7 : (Instr.bvsetbits .reserved7 64).wellFormed = false := by decide
theorem test_wellFormed_refuses_bvgetbits_sel6 : (Instr.bvgetbits .reserved6 0).wellFormed = false := by decide
theorem test_wellFormed_refuses_bvgetbits_sel7 : (Instr.bvgetbits .reserved7 0).wellFormed = false := by decide
theorem test_wellFormed_accepts_user : (Instr.bvsetbits .user 64).wellFormed = true := by decide

/-! ### Decoding (V-ENC, V-ILL) -/

theorem test_decode_nop : decodeTableWord 32 0x00000000 = some .nop := by decide
theorem test_decode_bvcfg : decodeTableWord 32 0x08400000 = some (.bvcfg 64) := by decide
theorem test_decode_bvsetbit : decodeTableWord 32 0x10000109 = some (.bvsetbit true 9) := by decide
theorem test_decode_bvgetbit : decodeTableWord 32 0x18000009 = some (.bvgetbit 9) := by decide
theorem test_decode_bvsetbits : decodeTableWord 32 0x23400000 = some (.bvsetbits .south 64) := by decide
theorem test_decode_bvgetbits : decodeTableWord 32 0x2C400000 = some (.bvgetbits .west 64) := by decide
theorem test_decode_bvsetbytes : decodeTableWord 32 0x300800FA = some (.bvsetbytes 8 250) := by decide
theorem test_decode_bvgetbytes : decodeTableWord 32 0x38081000 = some (.bvgetbytes 8 0x10) := by decide
theorem test_decode_crc16 : decodeTableWord 32 0x40090040 = some (.crc16 9 0x40) := by decide
theorem test_decode_crc16w : decodeTableWord 32 0x4802FE00 = some (.crc16w 2 254 0) := by decide
theorem test_decode_gfmul : decodeTableWord 32 0x600853CA = some (.gfmul 8 0x53 0xCA) := by decide
theorem test_decode_gfdiv : decodeTableWord 32 0x68080102 = some (.gfdiv 8 1 2) := by decide
theorem test_decode_gfexp : decodeTableWord 32 0x70080800 = some (.gfexp 8 8) := by decide
theorem test_decode_gflog : decodeTableWord 32 0x7808001D = some (.gflog 8 0x1D) := by decide
theorem test_decode_rscfg : decodeTableWord 32 0x8008F708 = some (.rscfg 8 247 8) := by decide
theorem test_decode_rsenc : decodeTableWord 32 0x88000400 = some (.rsenc 4 0) := by decide
theorem test_decode_rscor : decodeTableWord 32 0x900000F9 = some (.rscor 249) := by decide

/-- V-ENC-6 and V-ENC-7: the selectors. -/
theorem test_decode_selectors :
    (List.map (decodeTableWord 32) [0x21400000, 0x22400000, 0x24400000, 0x25400000, 0x28400000]) =
      [some (.bvsetbits .north 64), some (.bvsetbits .east 64), some (.bvsetbits .west 64),
        some (.bvsetbits .user 64), some (.bvgetbits .ident 64)] := by decide

/-- The words of V-ILL that name no command. -/
theorem test_decode_illegal :
    (List.map (decodeTableWord 32)
      [0x00000001, 0x01000000, 0xFFFFFFFF, 0x50000000, 0x58000000, 0x98000000, 0xF8000000, 0x10000209, 0x60180000,
        0x70080801, 0x41090000, 0x40090100, 0x88010400, 0x08400001]) = List.replicate 14 none := by decide

/-- V-ILL-9: SEL = 6 fails as ILLEGAL before NOCFG. -/
theorem test_illegal_selector_first :
    gotStep (State.reset.withFetchWord 32 0x26400000) (·.view .status) = some 0x106#32 := by decide

/-- V-ILL-4: a reserved opcode. -/
theorem test_reserved_opcode :
    gotStep (State.reset.withFetchWord 32 0x50000000) (·.view .status) = some 0x106#32 := by decide

/-! ### One step of each command -/

theorem test_nop : got .nop State.reset (·.view .status) = some 2#32 := by decide

/-- V-BV-1. -/
theorem test_bvcfg_64 : got (.bvcfg 64) State.reset (fun t => (t.view .status, t.view .bvcfgr)) =
    some (2#32, 0x80000040#32) := by decide

/-- V-BV-4: the vector is zeroed and invalidated. -/
theorem test_bvcfg_72 : got (.bvcfg 72) (withBv 64 8) (fun t => (t.view .status, t.view .bvcfgr, t.bv)) =
    some (0x606#32, 0#32, 0#64) := by decide

/-- V-BV-13. -/
theorem test_bvsetbit : got (.bvsetbit true 63) (withBv 64 0x200) vectorOutcome =
    some (2#32, 0x200#32, 0x80000000#32) := by decide

/-- V-BV-8. -/
theorem test_bvsetbit_range : got (.bvsetbit true 8) (withBv 8 0x80) vectorOutcome =
    some (0x206#32, 0x80#32, 0#32) := by decide

/-- V-BV-11. -/
theorem test_bvgetbit : got (.bvgetbit 9) (withBv 64 0x200) outcome = some (2#32, 1#32, 0#32) := by decide

/-- V-BV-16. -/
theorem test_bvgetbit_range : got (.bvgetbit 255) (withBv 64 0) outcome = some (0x206#32, 0#32, 0#32) := by decide

/-- V-BV-28. -/
theorem test_bvsetbits_user : got (.bvsetbits .user 64) (withRev (withArgs (withBv 64 0))) vectorOutcome =
    some (2#32, 0x0F7B3D59#32, 0x1E6A2C48#32) := by decide +kernel

/-- V-BV-33. -/
theorem test_bvsetbits_range : got (.bvsetbits .user 16) (withTwenty (withArgs (withBv 16 0))) vectorOutcome =
    some (0x206#32, 0#32, 0#32) := by decide +kernel

/-- V-BV-27. -/
theorem test_bvgetbits_user :
    got (.bvgetbits .user 64) (withRev (withBv 64 0x9ABCDEF012345678)) outcome =
      some (2#32, 0x0F7B3D59#32, 0x1E6A2C48#32) := by decide +kernel

/-- V-BV-35, with a get: the count is checked before the mapping, so PERM does not matter. -/
theorem test_bvgetbits_noop : got (.bvgetbits .north 17) (withBv 16 0xFFFF) (·.view .status) =
    some 0xA#32 := by decide

/-- V-BV-42. -/
theorem test_bvsetbytes :
    got (.bvsetbytes 3 0) ((withBv 64 0x6AD996B9303D77A1).memWrite 0 block1234) vectorOutcome =
      some (2#32, 0x003D77A1#32, 0#32) := by decide +kernel

/-- V-BV-40: NOOP is checked before RANGE. -/
theorem test_bvsetbytes_noop : got (.bvsetbytes 9 250) (withBv 64 1) vectorOutcome =
    some (0xA#32, 1#32, 0#32) := by decide

/-- V-BV-46. -/
theorem test_bvgetbytes :
    got (.bvgetbytes 8 248) (withBv 64 0x6AD996B9303D77A1) (bytesAt · 248 8) = some block1234 := by decide +kernel

/-- V-BV-45. -/
theorem test_bvgetbytes_range : got (.bvgetbytes 8 249) (withBv 64 0) (fun t => (t.view .status, t.dbuf)) =
    some (0x206#32, []) := by decide

/-- V-CRC-5. -/
theorem test_crc16 : got (.crc16 2 0) (State.reset.memWrite 0 [0xA1, 0x77]) outcome =
    some (2#32, 0x3D30#32, 0#32) := by decide +kernel

/-- V-CRC-15. -/
theorem test_crc16_range : got (.crc16 2 255) State.reset outcome = some (0x206#32, 0#32, 0#32) := by decide

/-- V-CRC-19: the overlap is computed from the old bytes. -/
theorem test_crc16w : got (.crc16w 2 1 0) (State.reset.memWrite 0 [0xA1, 0x77, 0x00, 0x00])
    (fun t => (t.view .res0, bytesAt t 0 4)) = some (0x3D30#32, [0xA1, 0x3D, 0x30, 0x00]) := by decide +kernel

/-- V-CRC-21. -/
theorem test_crc16w_range : got (.crc16w 2 255 0) State.reset (fun t => (t.view .status, t.dbuf)) =
    some (0x206#32, []) := by decide

/-- V-GF-3. -/
theorem test_gfmul : got (.gfmul 8 0xFF 0xFF) State.reset outcome = some (2#32, 0xE2#32, 0#32) := by decide +kernel

/-- V-GF-32. -/
theorem test_gfmul_operand : got (.gfmul 3 1 8) State.reset (·.view .status) = some 0x306#32 := by decide

/-- V-GF-12. -/
theorem test_gfdiv : got (.gfdiv 8 0x53 0xCA) State.reset outcome = some (2#32, 0x6D#32, 0#32) := by decide +kernel

/-- V-GF-34 and V-GF-35: 0 divided by 0 is ZERO, and OPERAND is checked before ZERO. -/
theorem test_gfdiv_errors : (got (.gfdiv 8 0 0) State.reset (·.view .status),
    got (.gfdiv 4 0x10 0) State.reset (·.view .status)) = (some 0x406#32, some 0x306#32) := by decide

/-- V-GF-22. -/
theorem test_gfexp : got (.gfexp 3 255) State.reset outcome = some (2#32, 3#32, 0#32) := by decide +kernel

/-- V-GF-40. -/
theorem test_gfexp_operand : got (.gfexp 2 1) State.reset (·.view .status) = some 0x306#32 := by decide

/-- V-GF-26. -/
theorem test_gflog : got (.gflog 8 0xFF) State.reset outcome = some (2#32, 175#32, 0#32) := by decide +kernel

/-- V-GF-37 and V-GF-39. -/
theorem test_gflog_errors : (got (.gflog 8 0) State.reset (·.view .status),
    got (.gflog 15 0) State.reset (·.view .status)) = (some 0x406#32, some 0x306#32) := by decide

/-- V-RS-25. -/
theorem test_rscfg : got (.rscfg 8 247 8) State.reset (·.view .rscfgr) = some 0x8008F708#32 := by decide

/-- V-RS-27: the earlier configuration is gone. -/
theorem test_rscfg_cfg : got (.rscfg 8 4 9) (withRs 8 4 4 0 []) (fun t => (t.view .status, t.view .rscfgr)) =
    some (0x606#32, 0#32) := by decide

/-- V-RS-37: the overlap is computed from the old bytes. -/
theorem test_rsenc : got (.rsenc 2 0) (withRs 8 4 4 0 [0xA1, 0x77, 0x3D, 0x30]) (bytesAt · 0 6) =
    some [0xA1, 0x77, 0xB9, 0x96, 0xD9, 0x6A] := by decide +kernel

/-- V-ERR-7: RANGE is checked before OPERAND. -/
theorem test_rsenc_range : got (.rsenc 253 0) (withRs 3 3 4 0 [1, 2, 8]) (·.view .status) =
    some 0x206#32 := by decide

/-- V-RS-12. -/
theorem test_rscor : got (.rscor 0) (withRs 3 3 4 0 [6, 2, 3, 0, 0, 0, 3]) (fun t => (outcome t, bytesAt t 0 7)) =
    some ((2#32, 2#32, 0x0202#32), [1, 2, 3, 0, 0, 1, 3]) := by decide +kernel

/-- V-RS-9: FAIL with ROOTS, because the degree of Λ is not L. -/
theorem test_rscor_roots : got (.rscor 0) (withRs 8 2 2 0 [1, 4, 0, 0]) (fun t => (outcome t, bytesAt t 0 4)) =
    some ((2#32, 0x300#32, 0x0100#32), [1, 4, 0, 0]) := by decide +kernel

/-! ### The window -/

/-- V-SYS-9 and V-SYS-11, the write. -/
theorem test_window_lanes :
    (gotStep (idleFacing State.reset (.write .word 0x100 0x44332211)) (bytesAt · 0 4),
      gotStep (idleFacing State.reset (.write .word 0x200 0xFFFFFFFF)) (·.view (.mapram 0))) =
      (some [0x11, 0x22, 0x33, 0x44], some 0x3F3F3F3F#32) := by decide

/-- V-HAZ-1, one of the dropped writes. -/
theorem test_dropped_write :
    gotStep (facing (State.reset.latchCommand 0x08400000) (.write .word 0x00C 0x08080000))
      (fun t => (t.view .status, t.view .cmd)) = some (0x11#32, 0x08400000#32) := by decide

/-- V-RST-1, the last write: IE stays as written, DBUF and MAPRAM are kept. -/
theorem test_soft_reset :
    gotStep (idleFacing { (withRs 8 4 4 0 [1, 2, 3, 4]).mapWrite 0 [5, 0, 0, 0] with ie := true, done := true }
        (.write .word 0x004 3))
      (fun t => (t.view .ctrl, t.view .status, t.view .rscfgr, t.view (.dbuf 0), t.view (.mapram 0))) =
      some (1#32, 0#32, 0#32, 0x04030201#32, 5#32) := by decide

/-! ### The host procedures -/

/-- V-HOST-1 and V-HOST-2. -/
theorem test_payload : (payload Config.defaultPolys 1234, payload Config.defaultPolys 65535) =
    (block1234, [0x5A, 0x5A, 0x07, 0xC4, 0x6D, 0x6D, 0xDD, 0x78]) := by decide +kernel

/-- V-HOST-3 and V-HOST-5: where two tables are one, the samples of id 1234 give its candidate in both trials, and the
trials do not separate. -/
theorem test_trials :
    trialCandidate Config.defaultPolys (fun _ => Equiv.refl _) 0x6AD996B9303D77A1 .north = some (.north, 1234) ∧
      trialsSeparate Config.defaultPolys (fun _ => Equiv.refl _) 0x6AD996B9303D77A1 .north = false := by
  decide +kernel

/-- V-HOST-8, EAST. -/
theorem test_corners : (List.finRange 4).map (reorderCorners .east (fun i => i.val)) = [1, 2, 3, 0] := by decide

/-! ### Witnesses: the hypotheses of each statement, met together -/

/-- A word in flight with the engine's step next, from reset. -/
def flying (w : Word) : State := State.reset.latchCommand w

/-- A block one symbol away from the codeword of V-RS-12, under its configuration. -/
def rs334 : State := withRs 3 3 4 0 [6, 2, 3, 0, 0, 1, 3]

theorem witness_EveryDecodedWordIsItsEncoding : decode 0x10000109#32 = .ok (.bvsetbit true 9) := by decide

theorem witness_ReservedOpcodeFailsIllegal :
    ((flying 0x50000000).engineTurn = true ∧ opcOf (flying 0x50000000).cmdl = 0x0A#5) ∧
    ((flying 0x58000000).engineTurn = true ∧ opcOf (flying 0x58000000).cmdl = 0x0B#5) ∧
    ((flying 0x98000000).engineTurn = true ∧ 0x13 ≤ (opcOf (flying 0x98000000).cmdl).toNat) ∧
    ((flying 0xFFFFFFFF).engineTurn = true ∧ 0x13 ≤ (opcOf (flying 0xFFFFFFFF).cmdl).toNat) := by decide

theorem witness_NonzeroReservedFieldFailsIllegal :
    (flying 0x10000209).engineTurn = true ∧
    opcOf (flying 0x10000209).cmdl = opcOf (encode (.bvsetbit true 9)) ∧
    (flying 0x10000209).cmdl &&& (Instr.bvsetbit true 9).row.1 ≠ (Instr.bvsetbit true 9).row.2 := by decide

theorem witness_ReservedSelectorFailsIllegal :
    Selector.reserved6.isReserved = true ∧ Selector.reserved7.isReserved = true := by decide

theorem witness_StepRunsTheDecodedCommand :
    ((flying 0x08400000).engineTurn = true ∧ decode (flying 0x08400000).cmdl = .ok (.bvcfg 64)) ∧
    ((flying 0x08400000).busy = true ∧ (flying 0x08400000).inputs = []) ∧
    (((flying 0x08400000).setInputs [.wait]).busy = true ∧ ((flying 0x08400000).setInputs [.wait]).delay = 0) ∧
    (State.reset.busy = false ∧ State.reset.inputs = []) := by decide

theorem witness_BvcfgConfiguresOrInvalidates :
    (8#8).toNat ∈ [8, 16, 24, 32, 40, 48, 56, 64] ∧ (64#8).toNat ∈ [8, 16, 24, 32, 40, 48, 56, 64] ∧
    (0#8).toNat ∉ [8, 16, 24, 32, 40, 48, 56, 64] ∧ (72#8).toNat ∉ [8, 16, 24, 32, 40, 48, 56, 64] := by decide

theorem witness_BvsetbitWritesOneBit :
    (withBv 64 0x200).bvInv ∧ (withBv 64 0x200).bvValid = true ∧ (63#8).toNat < (withBv 64 0x200).bvLen.toNat := by
  decide

theorem witness_BvgetbitReadsOneBit :
    (withBv 8 0x80).bvValid = true ∧ (7#8).toNat < (withBv 8 0x80).bvLen.toNat := by decide

/-- For BvsetbitsScattersThroughTheMapping and BvgetbitsGathersThroughTheMapping, with the most bits there are. -/
theorem witness_BulkBits :
    let s := withRev (withBv 64 0)
    s.bvInv ∧ s.bvValid = true ∧ selectorMapping .user = some .user ∧ (64#8).toNat ≤ s.bvLen.toNat ∧
      ∀ i, i < (64#8).toNat → s.mapIndex .user i < s.bvLen.toNat := by decide +kernel

/-- For BvsetbytesLoadsBytes and BvgetbytesStoresBytes, at the end of DBUF. -/
theorem witness_BulkBytes :
    (withBv 64 0).bvInv ∧ (withBv 64 0).bvValid = true ∧ 8 * (8#8).toNat ≤ (withBv 64 0).bvLen.toNat ∧
      (248#8).toNat + (8#8).toNat ≤ 256 := by decide

theorem witness_BvCommandsFailInOrder :
    (selectorMapping .user = some .user ∧ State.reset.bvValid = false) ∧
    ((withBv 8 0).bvValid = true ∧ (withBv 8 0).bvLen.toNat ≤ (8#8).toNat) ∧
    ((withTwenty (withBv 16 0)).bvValid = true ∧ (1#8).toNat ≤ (withTwenty (withBv 16 0)).bvLen.toNat ∧
      ∃ i, i < (1#8).toNat ∧ (withTwenty (withBv 16 0)).bvLen.toNat ≤ (withTwenty (withBv 16 0)).mapIndex .user i) ∧
    ((withBv 64 0).bvValid = true ∧ (8#8).toNat ≤ (withBv 64 0).bvLen.toNat / 8 ∧
      256 < (249#8).toNat + (8#8).toNat) :=
  ⟨by decide, by decide, ⟨by decide, by decide, 0, by decide, by decide +kernel⟩, by decide⟩

theorem witness_CountAboveCapacityIsTheOnlyNoop :
    ((withBv 64 0).bvValid = true ∧ Selector.ident.isReserved = false ∧ (withBv 64 0).bvLen.toNat < (65#8).toNat) ∧
    (withBv 64 0).bvLen.toNat / 8 < (9#8).toNat ∧
    ∃ t, exec (.bvsetbits .ident 65) (withBv 64 0) = .next t ∧ t.noop = true := ⟨by decide, by decide, _, rfl, rfl⟩

theorem witness_BulkBitsRoundTrip :
    let s := withArgs (withBv 64 0)
    s.bvInv ∧ s.bvValid = true ∧ selectorMapping .ident = some .ident ∧ (64#8).toNat ≤ s.bvLen.toNat ∧
      (∀ i, i < (64#8).toNat → s.mapIndex .ident i < s.bvLen.toNat) ∧
      (∀ i j, i < (64#8).toNat → j < (64#8).toNat → s.mapIndex .ident i = s.mapIndex .ident j → i = j) :=
  ⟨by decide, rfl, rfl, by decide, fun _ h => h, fun _ _ _ _ h => h⟩

theorem witness_Crc16ReturnsTheCrc :
    (255#8).toNat + (1#8).toNat ≤ 256 ∧ 256 < (255#8).toNat + (2#8).toNat := by decide

theorem witness_Crc16wStoresTheCrc :
    ((0#8).toNat + (2#8).toNat ≤ 256 ∧ (254#8).toNat + 2 ≤ 256) ∧ 256 < (255#8).toNat + (2#8).toNat ∧
      256 < (255#8).toNat + 2 := by decide

/-- For GfmulReturnsTheProduct, GfdivReturnsTheQuotient, GfexpReturnsThePower and GflogReturnsTheExponent, at both ends
of the sizes. -/
theorem witness_GfResults :
    State.reset.primInv ∧
    (3 ≤ (3#4).toNat ∧ (3#4).toNat ≤ 8 ∧ (7#8).toNat < 2 ^ (3#4).toNat ∧ (7#8 : Byte) ≠ 0#8) ∧
    (3 ≤ (8#4).toNat ∧ (8#4).toNat ≤ 8 ∧ (255#8).toNat < 2 ^ (8#4).toNat ∧ (255#8 : Byte) ≠ 0#8) := by decide +kernel

theorem witness_GfCommandsFailInOrder :
    (2#4).toNat < 3 ∧ 8 < (9#4).toNat ∧
    (3 ≤ (3#4).toNat ∧ (3#4).toNat ≤ 8 ∧ 2 ^ (3#4).toNat ≤ (8#8).toNat) ∧
    (3 ≤ (8#4).toNat ∧ (8#4).toNat ≤ 8 ∧ (255#8).toNat < 2 ^ (8#4).toNat) := by decide

/-- For GfTablesAreInverse, GfMulIsPolynomialProduct and GfFieldLaws: the default polynomials of both ends of the sizes. -/
theorem witness_GfElements :
    (State.reset.field 3).ok = true ∧ (State.reset.field 8).ok = true ∧ 6 < 2 ^ (State.reset.field 3).m - 1 ∧
      (7#8 : Byte) ≠ 0#8 ∧ (7#8).toNat < 2 ^ (State.reset.field 3).m ∧ 254 < 2 ^ (State.reset.field 8).m - 1 ∧
      (255#8).toNat < 2 ^ (State.reset.field 8).m := by decide +kernel

/-- A polynomial the spec allows and does not take as its default, under which x times x^2 is x^2 + 1, and one it does
not allow, x^3 + 1 (R171). -/
theorem test_other_polynomials :
    (State.resetWith { Config.defaultPolys with p3 := 0x00D }).primInv ∧ gfMul ⟨3, 0x00D⟩ 2 4 = 5 ∧
      GField.ok ⟨3, 0x009⟩ = false := by decide +kernel

theorem witness_RscfgConfiguresOrClears :
    (3 ≤ (8#8).toNat ∧ (8#8).toNat ≤ 8 ∧ 1 ≤ (8#8).toNat ∧ 1 ≤ (247#8).toNat ∧
      (247#8).toNat + (8#8).toNat ≤ 2 ^ (8#8).toNat - 1) ∧
    (3 ≤ (3#8).toNat ∧ (3#8).toNat ≤ 8 ∧ 1 ≤ (6#8).toNat ∧ (6#8).toNat ≤ 8 ∧ 1 ≤ (1#8).toNat ∧
      (1#8).toNat + (6#8).toNat ≤ 2 ^ (3#8).toNat - 1) ∧
    (2#8).toNat < 3 ∧ 8 < (9#8).toNat ∧ (0#8).toNat < 1 ∧
    2 ^ (8#8).toNat - 1 < (248#8).toNat + (8#8).toNat := by decide

theorem witness_RsencStoresTheParity :
    let s := withRs 8 4 4 0 [0xA1, 0x77, 0x3D, 0x30]
    s.rsInv ∧ s.rsValid = true ∧ (0#8).toNat + s.rsK.toNat ≤ 256 ∧ (252#8).toNat + s.rsR.toNat ≤ 256 ∧
      ∀ j, j < s.rsK.toNat → (s.dbufByte ((0#8).toNat + j)).toNat < 2 ^ s.rsM.toNat := by decide +kernel

theorem witness_RsParityMakesCodewords :
    (State.reset.field 3).ok = true ∧ rsConfigOk (State.reset.field 3).m 3 4 = true ∧
      ([1#8, 2#8, 3#8] : List Byte).length = 3 ∧
      ∀ d ∈ ([1#8, 2#8, 3#8] : List Byte), d.toNat < 2 ^ (State.reset.field 3).m := by decide +kernel

/-- A corrected block; the two verdicts below it are the other two cases of the conclusion. -/
theorem witness_RscorReportsAndCorrects :
    (rs334.rsInv ∧ rs334.rsValid = true ∧ 7 = rs334.rsK.toNat + rs334.rsR.toNat ∧ (0#8).toNat + 7 ≤ 256 ∧
      [6#8, 2#8, 3#8, 0#8, 0#8, 1#8, 3#8] = (List.range 7).map (fun j => rs334.dbufByte ((0#8).toNat + j)) ∧
      (∀ c ∈ [6#8, 2#8, 3#8, 0#8, 0#8, 1#8, 3#8], c.toNat < 2 ^ rs334.rsM.toNat) ∧
      RsVerdict.corrected [1, 2, 3, 0, 0, 1, 3] 1 1 =
        rsDecode rs334.rsField rs334.rsR.toNat [6#8, 2#8, 3#8, 0#8, 0#8, 1#8, 3#8]) ∧
    rsDecode (State.reset.field 3) 4 [1, 2, 3, 0, 0, 1, 3] = .clean ∧
    rsDecode (State.reset.field 8) 2 [1, 4, 0, 0] = .uncorrectable .roots 1 0 := by decide +kernel

theorem witness_RscorCorrectsUpToCapacity :
    let s := withRs 3 3 4 0 [6, 2, 3, 0, 0, 0, 3]
    let block := [6#8, 2#8, 3#8, 0#8, 0#8, 0#8, 3#8]
    let code := [1#8, 2#8, 3#8, 0#8, 0#8, 1#8, 3#8]
    s.primInv ∧ s.rsInv ∧ s.rsValid = true ∧ 7 = s.rsK.toNat + s.rsR.toNat ∧ (0#8).toNat + 7 ≤ 256 ∧
      block = (List.range 7).map (fun j => s.dbufByte ((0#8).toNat + j)) ∧
      (∀ c ∈ block, c.toNat < 2 ^ s.rsM.toNat) ∧ code.length = 7 ∧ (∀ c ∈ code, c.toNat < 2 ^ s.rsM.toNat) ∧
      isCodeword s.rsField s.rsR.toNat code = true ∧ distance block code ≤ s.rsR.toNat / 2 := by decide +kernel

theorem exec_of_got {i : Instr} {s t : State} (h : got i s id = some t) : exec i s = .next t := by
  unfold got at h
  split at h <;> simp_all

theorem witness_RscorSuccessLeavesACodeword :
    rs334.primInv ∧ rs334.rsInv ∧ (exec (.rscor 0) rs334 = .next ((rs334.memWrite 0 [1, 2, 3, 0, 0, 1, 3]).setResult 1 0x101).completed) ∧
      ((rs334.memWrite 0 [1, 2, 3, 0, 0, 1, 3]).setResult 1 0x101).completed.err = false ∧
      ((rs334.memWrite 0 [1, 2, 3, 0, 0, 1, 3]).setResult 1 0x101).completed.res0.getLsbD 8 = false :=
  ⟨by decide +kernel, by decide, exec_of_got (by decide +kernel), by decide, by decide⟩

theorem witness_RscorNeverEndsAsForney :
    (State.reset.field 3).ok = true ∧ rsConfigOk (State.reset.field 3).m 3 4 = true ∧
      ([6, 2, 3, 0, 0, 1, 3] : List Byte).length = 3 + 4 ∧
      ∀ c ∈ ([6, 2, 3, 0, 0, 1, 3] : List Byte), c.toNat < 2 ^ (State.reset.field 3).m := by decide +kernel

theorem witness_RsCommandsFailInOrder :
    State.reset.rsValid = false ∧
    ((withRs 8 4 4 0 []).rsValid = true ∧ 256 < (253#8).toNat + (withRs 8 4 4 0 []).rsK.toNat ∧
      256 < (253#8).toNat + (withRs 8 4 4 0 []).rsR.toNat ∧
      256 < (249#8).toNat + ((withRs 8 4 4 0 []).rsK.toNat + (withRs 8 4 4 0 []).rsR.toNat)) ∧
    (let s := withRs 3 3 4 0 [1, 2, 8, 0, 0, 0, 8]
     s.rsValid = true ∧ (0#8).toNat + s.rsK.toNat ≤ 256 ∧ (252#8).toNat + s.rsR.toNat ≤ 256 ∧
      (0#8).toNat + (s.rsK.toNat + s.rsR.toNat) ≤ 256 ∧
      (∃ j, j < s.rsK.toNat ∧ 2 ^ s.rsM.toNat ≤ (s.dbufByte ((0#8).toNat + j)).toNat) ∧
      ∃ j, j < s.rsK.toNat + s.rsR.toNat ∧ 2 ^ s.rsM.toNat ≤ (s.dbufByte ((0#8).toNat + j)).toNat) :=
  ⟨by decide, by decide, by decide, by decide, by decide, by decide, ⟨2, by decide, by decide +kernel⟩,
    6, by decide, by decide +kernel⟩

/-- For EveryCommandEndsWithOneOutcome and FailingCommandChangesOnlyStatus: GFDIV 8, 1, 0. -/
theorem witness_FailingCommandChangesOnlyStatus :
    (flying 0x68080100).engineTurn = true ∧
    step (flying 0x68080100) = .next ((flying 0x68080100).failed .zero) ∧
    ((flying 0x68080100).failed .zero).errcode = some .zero := ⟨by decide, by rfl, by decide⟩

theorem witness_ErrorsAreThoseTabled :
    exec (.gfdiv 8 1 0) State.reset = .next (State.reset.failed .zero) ∧
    (State.reset.failed .zero).errcode = some .zero := ⟨by rfl, by decide⟩

theorem witness_StateIsWrittenOnlyByItsCommands : exec .nop State.reset = .next State.reset.completed := rfl

/-- Idle before any command, and idle with the last command not acknowledged. -/
theorem witness_CmdWriteWhileIdleIsAccepted :
    ((idleFacing State.reset (.write .word 0x00C 0)).busy = false ∧
      (idleFacing State.reset (.write .word 0x00C 0)).inputs = .write .word 0x00C#32 0#32 :: []) ∧
    ((idleFacing State.reset.completed (.write .word 0x00C 0)).busy = false ∧
      (idleFacing State.reset.completed (.write .word 0x00C 0)).done = true) := by decide

theorem witness_IdleWritesReachTheirRegisters :
    ((idleFacing State.reset (.write .word 0x010 5)).busy = false ∧
      (idleFacing State.reset (.write .word 0x010 5)).inputs = .write .word 0x010#32 5#32 :: []) ∧
    (idleFacing State.reset (.write .word 0x014 5)).inputs = .write .word 0x014#32 5#32 :: [] ∧
    (idleFacing State.reset (.write .word 0x008 0x1F)).inputs = .write .word 0x008#32 0x1F#32 :: [] ∧
    ((idleFacing State.reset (.write .word 0x004 1)).inputs = .write .word 0x004#32 1#32 :: [] ∧
      (1#32).getLsbD 1 = false) := by decide

/-- The five clauses of WritesWhileBusyAreDropped at the ends of their ranges. -/
theorem witness_WritesWhileBusyAreDropped :
    ((facing State.reset (.write .word 0x23C 0)).engineTurn = false ∧
      (facing State.reset (.write .word 0x23C 0)).busy = true ∧
      (facing State.reset (.write .word 0x23C 0)).inputs = .write .word 0x23C#32 0#32 :: []) ∧
    ((facing State.reset (.write .word 0x004 1)).engineTurn = false ∧ (1#32).getLsbD 1 = false) ∧
    ((facing State.reset (.write .word 0x004 2)).engineTurn = false ∧ (2#32).getLsbD 1 = true) ∧
    (facing State.reset (.write .word 0x008 0x1F)).engineTurn = false ∧
    (facing State.reset (.write .word 0xFFC 0)).engineTurn = false := by decide

/-- The offsets of the first clause of WritesWhileBusyAreDropped, and those of its last. -/
theorem witness_WritesWhileBusyAreDropped_offsets :
    (∀ o ∈ [0x00C, 0x010, 0x014, 0x100, 0x23C], o % 4 = 0 ∧ o < 0x1000 ∧
      (o ∈ [0x00C, 0x010, 0x014] ∨ (0x100 ≤ o ∧ o < 0x240))) ∧
    ∀ o ∈ [0x018, 0x0FC, 0x240, 0xFFC], o % 4 = 0 ∧ o < 0x1000 ∧ ((0x018 ≤ o ∧ o < 0x100) ∨ 0x240 ≤ o) := by
  decide

/-- A read while a command is in flight and one while none is, at the ends of the ranges of ReadsHaveNoSideEffects. -/
theorem witness_ReadsHaveNoSideEffects :
    ((facing State.reset (.read .word 0x018)).engineTurn = false ∧
      (facing State.reset (.read .word 0x018)).inputs = .read .word 0x018#32 :: []) ∧
    ((idleFacing State.reset (.read .word 0xFFC)).engineTurn = false ∧
      (idleFacing State.reset (.read .word 0xFFC)).inputs = .read .word 0xFFC#32 :: []) ∧
    (∀ o ∈ [0x018, 0x02C, 0x100, 0x1FC], o % 4 = 0 ∧ ((0x018 ≤ o ∧ o ≤ 0x02C) ∨ (0x100 ≤ o ∧ o < 0x200))) ∧
    ∀ o ∈ [0x000, 0x014, 0x030, 0x0FC, 0x200, 0xFFC],
      o % 4 = 0 ∧ ¬((0x018 ≤ o ∧ o ≤ 0x02C) ∨ (0x100 ≤ o ∧ o < 0x200)) := by decide

/-- The last word of each window. -/
theorem witness_WindowWordsLandInTheirLanes :
    (idleFacing State.reset (.write .word 0x1FC 5)).busy = false ∧
    (63 < 64 ∧ (idleFacing State.reset (.write .word 0x1FC 5)).inputs =
      .write .word (BitVec.ofNat 32 (0x100 + 4 * 63)) 5#32 :: []) ∧
    (15 < 16 ∧ (idleFacing State.reset (.write .word 0x23C 5)).inputs =
      .write .word (BitVec.ofNat 32 (0x200 + 4 * 15)) 5#32 :: []) := by decide

/-- The ends of the reserved ranges of RegisterViewsAreAsLaidOut, and of its windows. -/
theorem witness_RegisterViewsAreAsLaidOut :
    (∀ o ∈ [0x030, 0x0FC, 0x240, 0xFFC], o % 4 = 0 ∧ ((0x030 ≤ o ∧ o ≤ 0x0FC) ∨ (0x240 ≤ o ∧ o ≤ 0xFFC))) ∧
      63 < 64 ∧ 15 < 16 ∧ 3 < 4 := by decide

/-- A byte read, an unaligned word write, and the first and the last offset outside the window. -/
theorem witness_UnsupportedAccessesStopTheHost :
    ((idleFacing State.reset (.read .byte 0xFFF)).engineTurn = false ∧
      (idleFacing State.reset (.read .byte 0xFFF)).inputs = .read .byte 0xFFF#32 :: [] ∧
      (0xFFF#32).toNat < 0x1000 ∧ AccessWidth.byte ≠ .word) ∧
    ((idleFacing State.reset (.write .word 0x002 0)).inputs = .write .word 0x002#32 0#32 :: [] ∧
      (0x002#32).toNat < 0x1000 ∧ (0x002#32).toNat % 4 ≠ 0) ∧
    0x1000 ≤ (0x1000#32).toNat ∧ 0x1000 ≤ (0xFFFFFFFF#32).toNat := by decide

/-- An engine's turn, a fall by an acknowledge, and a rise by setting IE while DONE = 1. -/
theorem witness_InterruptRisesAndFallsAsStated :
    ((flying 0).engineTurn = true ∧ ∃ t, step (flying 0) = .next t) ∧
    (let s := idleFacing { State.reset.completed with ie := true } (.write .word 0x008 2)
     s.irq = true ∧ ∃ t, step s = .next t ∧ t.irq = false) ∧
    (let s := idleFacing State.reset.completed (.write .word 0x004 1)
     s.irq = false ∧ ∃ t, step s = .next t ∧ t.irq = true) :=
  ⟨⟨by decide, _, rfl⟩, ⟨by decide, _, rfl, by decide⟩, ⟨by decide, _, rfl, by decide⟩⟩

theorem witness_PowerOnResetClearsEveryRegister :
    (facing State.reset .powerOnReset).engineTurn = false ∧
    (facing State.reset .powerOnReset).inputs = .powerOnReset :: [] := by decide

/-- For SoftResetClearsTheUnits and SoftResetAbandonsTheCommand: V-RST-2, and a reset of an idle core. -/
theorem witness_SoftResetAbandonsTheCommand :
    (let s := facing ((withRs 8 4 4 0 block1234).latchCommand 0x88000400) (.write .word 0x004 2)
     s.engineTurn = false ∧ s.busy = true ∧ s.inputs = .write .word 0x004#32 2#32 :: []) ∧
    (let s := idleFacing (withRs 8 4 4 0 block1234) (.write .word 0x004 3)
     s.engineTurn = false ∧ s.busy = false ∧ s.inputs = .write .word 0x004#32 3#32 :: []) ∧
    (2#32).getLsbD 1 = true ∧ (3#32).getLsbD 1 = true := by decide

/-- A command in flight over a valid configuration. -/
theorem witness_EveryStepKeepsTheInvariant :
    ((withBv 64 8).latchCommand 0x08080000).Inv ∧ ∃ t, step ((withBv 64 8).latchCommand 0x08080000) = .next t :=
  ⟨by decide +kernel, _, rfl⟩

theorem witness_IssueAndWaitComplete :
    let s : State := { State.reset with inputs := [.write .word 0x00C 0x08400000, .wait] }
    s.busy = false ∧ s.inputs = .write .word 0x00C#32 0x08400000#32 :: .wait :: [] := by decide

theorem witness_PayloadCommandsBuildThePayload : State.reset.busy = false := rfl

/-- A 64-bit value as the 64 sample bytes of R233. -/
def sampleList (bits : BitVec 64) : List Byte := (List.range 64).map fun i => if bits.getLsbD i then 1 else 0

theorem sampleBits_sampleList (bits : BitVec 64) : sampleBits (sampleList bits) = some bits := by
  have hall : (sampleList bits).all (fun b => b == 0#8 || b == 1#8) = true := by
    simp only [sampleList, List.all_map, List.all_eq_true]
    intro i _
    cases h : bits.getLsbD i <;> simp [h]
  have hone : ∀ i, (fun b : Byte => b == 1#8) (if bits.getLsbD i then 1 else 0) = bits.getLsbD i := by
    intro i; cases bits.getLsbD i <;> rfl
  have hlen : (sampleList bits).length = 64 := by simp [sampleList]
  unfold sampleBits
  rw [if_pos ⟨hlen, hall⟩]
  congr 1
  apply BitVec.eq_of_getLsbD_eq
  intro i hi
  rw [BitVec.getLsbD_setWidth, BitVec.getLsbD_ofBoolListLE]
  simp only [hi, decide_true, Bool.true_and, sampleList, List.map_map]
  rw [List.getD_eq_getElem?_getD, List.getElem?_map, List.getElem?_range hi]
  exact hone i

/-- The samples exist for any table: here those of id 1234 through NORTH. -/
theorem witness_DecodeReturnsItsOwnTag :
    State.reset.primInv ∧ State.reset.busy = false ∧ ∃ (samples : List Byte) (bits : BitVec 64),
      sampleBits samples = some bits ∧ ∀ i, i < 64 → bits.getLsbD i =
        (packBytes (payload State.reset.prim 1234)).getLsbD (Config.perm .north (BitVec.ofNat 6 i)).toNat :=
  ⟨by decide +kernel, rfl, _, _, sampleBits_sampleList (BitVec.ofFnLE fun i =>
      (packBytes (payload State.reset.prim 1234)).getLsbD (Config.perm .north (BitVec.ofNat 6 i)).toNat),
    fun i h => by rw [BitVec.getLsbD_eq_getElem h, BitVec.getElem_ofFnLE]⟩

end Sys2Proof.Machine
end

/-! The statements of spec/00_scope.md: the two agents of R14, and the state that R15 and R24 to R36 let each of them
write. -/

namespace Sys2Proof.Machine

variable {s t : State} {i : Instr}

/-! ### Whose turn it is -/

/-- On the engine's turn a step is the meaning of the command in CMDL (R14, R122). -/
theorem step_eq_exec (hturn : s.engineTurn = true) (hdec : decode s.cmdl = .ok i) : step s = exec i s := by
  rw [step, if_pos hturn, engineStep, hdec]

/-- The engine has no turn while no command is in flight (R269). -/
theorem engineTurn_eq_false_of_idle (hidle : s.busy = false) : s.engineTurn = false := by
  rw [State.engineTurn, hidle, Bool.false_and]

/-- With nothing in flight and nothing to come the machine stands still (R269). -/
theorem step_eq_self (hidle : s.busy = false) (hnone : s.inputs = []) : step s = .next s := by
  rw [step, engineTurn_eq_false_of_idle hidle, if_neg Bool.false_ne_true, State.hostStep, hnone]

/-- Settles O8: each clause is one of the rules above. -/
theorem stepRunsTheDecodedCommand : Obligations.StepRunsTheDecodedCommand :=
  ⟨fun _ _ => step_eq_exec, fun _ => engineTurn_eq_false_of_idle, fun _ hbusy hdue => engineTurn_iff.2 ⟨hbusy, hdue⟩,
    fun _ => step_eq_self⟩

/-! ### What a command writes -/

/-- The states a command may end in, by the units it may write: nothing but the outcome, for any command, or the one
write the rules R27 to R36 name for it. -/
inductive CommandEnd (s : State) : Instr → State → Prop
  | unwritten (i : Instr) (o : CmdOutcome) : CommandEnd s i (s.endCommand o)
  | bvcfg (n : Byte) (valid : Bool) (len : BitVec 7) (o : CmdOutcome) :
      CommandEnd s (.bvcfg n) ((s.setBvConfig valid len).endCommand o)
  | bvsetbit (v : Bool) (x : Byte) (bv : BitVec 64) : CommandEnd s (.bvsetbit v x) ((s.setBv bv).endCommand .ok)
  | bvgetbit (x : Byte) (r0 r1 : Word) : CommandEnd s (.bvgetbit x) ((s.setResult r0 r1).endCommand .ok)
  | bvsetbits (sel : Selector) (c : Byte) (bv : BitVec 64) :
      CommandEnd s (.bvsetbits sel c) ((s.setBv bv).endCommand .ok)
  | bvgetbits (sel : Selector) (c : Byte) (r0 r1 : Word) :
      CommandEnd s (.bvgetbits sel c) ((s.setResult r0 r1).endCommand .ok)
  | bvsetbytes (c a : Byte) (bv : BitVec 64) : CommandEnd s (.bvsetbytes c a) ((s.setBv bv).endCommand .ok)
  | bvgetbytes (c a : Byte) (bytes : List Byte) :
      CommandEnd s (.bvgetbytes c a) ((s.memWrite a.toNat bytes).endCommand .ok)
  | crc16 (l a : Byte) (r0 r1 : Word) : CommandEnd s (.crc16 l a) ((s.setResult r0 r1).endCommand .ok)
  | crc16w (l d a : Byte) (bytes : List Byte) (r0 r1 : Word) :
      CommandEnd s (.crc16w l d a) (((s.memWrite d.toNat bytes).setResult r0 r1).endCommand .ok)
  | gfmul (m : BitVec 4) (a b : Byte) (r0 r1 : Word) :
      CommandEnd s (.gfmul m a b) ((s.setResult r0 r1).endCommand .ok)
  | gfdiv (m : BitVec 4) (a b : Byte) (r0 r1 : Word) :
      CommandEnd s (.gfdiv m a b) ((s.setResult r0 r1).endCommand .ok)
  | gfexp (m : BitVec 4) (e : Byte) (r0 r1 : Word) : CommandEnd s (.gfexp m e) ((s.setResult r0 r1).endCommand .ok)
  | gflog (m : BitVec 4) (x : Byte) (r0 r1 : Word) : CommandEnd s (.gflog m x) ((s.setResult r0 r1).endCommand .ok)
  | rscfg (m k r : Byte) (valid : Bool) (rsM : BitVec 4) (rsK rsR : Byte) (o : CmdOutcome) :
      CommandEnd s (.rscfg m k r) ((s.setRsConfig valid rsM rsK rsR).endCommand o)
  | rsenc (d a : Byte) (bytes : List Byte) : CommandEnd s (.rsenc d a) ((s.memWrite d.toNat bytes).endCommand .ok)
  | rscorReport (a : Byte) (r0 r1 : Word) : CommandEnd s (.rscor a) ((s.setResult r0 r1).endCommand .ok)
  | rscorCorrect (a : Byte) (bytes : List Byte) (r0 r1 : Word) :
      CommandEnd s (.rscor a) (((s.memWrite a.toNat bytes).setResult r0 r1).endCommand .ok)

/-- RSCOR writes its report, and the block only when it corrected it (R206). -/
theorem applyVerdict_commandEnd (s : State) (a : Byte) (v : RsVerdict) :
    CommandEnd s (.rscor a) ((s.applyVerdict a.toNat v).endCommand .ok) := by
  cases v with
  | clean => exact .rscorReport ..
  | uncorrectable reason len deg => exact .rscorReport ..
  | corrected block len deg => exact .rscorCorrect ..

/-- Every command ends as the table of `CommandEnd` allows it to. -/
theorem exec_commandEnd (h : exec i s = .next t) : CommandEnd s i t := by
  cases i with
  | nop =>
    obtain rfl := execNop_cases h
    exact .unwritten ..
  | bvcfg n => obtain ⟨_, rfl⟩ | ⟨_, rfl⟩ := execBvcfg_cases h <;> exact .bvcfg ..
  | bvsetbit v x =>
    obtain ⟨_, rfl⟩ | ⟨_, _, rfl⟩ | ⟨_, _, rfl⟩ := execBvsetbit_cases h
    exacts [.unwritten .., .unwritten .., .bvsetbit ..]
  | bvgetbit x =>
    obtain ⟨_, rfl⟩ | ⟨_, _, rfl⟩ | ⟨_, _, rfl⟩ := execBvgetbit_cases h
    exacts [.unwritten .., .unwritten .., .bvgetbit ..]
  | bvsetbits sel c =>
    obtain ⟨_, rfl⟩ | ⟨_, _, ⟨_, rfl⟩ | ⟨_, _, rfl⟩ | ⟨_, _, _, rfl⟩ | ⟨_, _, _, rfl⟩⟩ := execBvsetbits_cases h
    exacts [.unwritten .., .unwritten .., .unwritten .., .unwritten .., .bvsetbits ..]
  | bvgetbits sel c =>
    obtain ⟨_, rfl⟩ | ⟨_, _, ⟨_, rfl⟩ | ⟨_, _, rfl⟩ | ⟨_, _, _, rfl⟩ | ⟨_, _, _, rfl⟩⟩ := execBvgetbits_cases h
    exacts [.unwritten .., .unwritten .., .unwritten .., .unwritten .., .bvgetbits ..]
  | bvsetbytes c a =>
    obtain ⟨_, rfl⟩ | ⟨_, _, rfl⟩ | ⟨_, _, _, rfl⟩ | ⟨_, _, _, rfl⟩ := execBvsetbytes_cases h
    exacts [.unwritten .., .unwritten .., .unwritten .., .bvsetbytes ..]
  | bvgetbytes c a =>
    obtain ⟨_, rfl⟩ | ⟨_, _, rfl⟩ | ⟨_, _, _, rfl⟩ | ⟨_, _, _, rfl⟩ := execBvgetbytes_cases h
    exacts [.unwritten .., .unwritten .., .unwritten .., .bvgetbytes ..]
  | crc16 l a =>
    obtain ⟨_, rfl⟩ | ⟨_, rfl⟩ := execCrc16_cases h
    exacts [.unwritten .., .crc16 ..]
  | crc16w l d a =>
    obtain ⟨_, rfl⟩ | ⟨_, rfl⟩ := execCrc16w_cases h
    exacts [.unwritten .., .crc16w ..]
  | gfmul m a b =>
    obtain ⟨_, rfl⟩ | ⟨_, rfl⟩ := execGfmul_cases h
    exacts [.unwritten .., .gfmul ..]
  | gfdiv m a b =>
    obtain ⟨_, rfl⟩ | ⟨_, _, rfl⟩ | ⟨_, _, rfl⟩ := execGfdiv_cases h
    exacts [.unwritten .., .unwritten .., .gfdiv ..]
  | gfexp m e =>
    obtain ⟨_, rfl⟩ | ⟨_, rfl⟩ := execGfexp_cases h
    exacts [.unwritten .., .gfexp ..]
  | gflog m x =>
    obtain ⟨_, rfl⟩ | ⟨_, _, rfl⟩ | ⟨_, _, rfl⟩ := execGflog_cases h
    exacts [.unwritten .., .unwritten .., .gflog ..]
  | rscfg m k r => obtain ⟨_, rfl⟩ | ⟨_, rfl⟩ := execRscfg_cases h <;> exact .rscfg ..
  | rsenc d a =>
    obtain ⟨_, rfl⟩ | ⟨_, _, rfl⟩ | ⟨_, _, _, rfl⟩ | ⟨_, _, _, rfl⟩ := execRsenc_cases h
    exacts [.unwritten .., .unwritten .., .unwritten .., .rsenc ..]
  | rscor a =>
    obtain ⟨_, rfl⟩ | ⟨_, _, rfl⟩ | ⟨_, _, _, rfl⟩ | ⟨_, _, _, rfl⟩ := execRscor_cases h
    exacts [.unwritten .., .unwritten .., .unwritten .., applyVerdict_commandEnd ..]

/-! ### What a command leaves alone -/

namespace CommandEnd

/-- PRIM_POLY, the host's registers, MAPRAM and the model's own fields are written by no command (R15, R24, R25, R27,
R33). -/
theorem keeps_host_state (h : CommandEnd s i t) :
    t.prim = s.prim ∧ t.ie = s.ie ∧ t.ovr = s.ovr ∧ t.cmdl = s.cmdl ∧ t.arg0 = s.arg0 ∧ t.arg1 = s.arg1 ∧
    t.mapram = s.mapram ∧ t.epoch = s.epoch ∧ t.draws = s.draws ∧ t.delay = s.delay ∧ t.inputs = s.inputs ∧
    t.hostData = s.hostData := by
  cases h <;> simp

/-- Only RSCFG writes the Reed-Solomon configuration (R29, R36). -/
theorem keeps_rsConfig (h : CommandEnd s i t) (hrscfg : ∀ m k r, i ≠ .rscfg m k r) :
    t.rsValid = s.rsValid ∧ t.rsM = s.rsM ∧ t.rsK = s.rsK ∧ t.rsR = s.rsR := by
  cases h with
  | rscfg => exact absurd rfl (hrscfg _ _ _)
  | _ => simp

/-- Only BVCFG writes BV_VALID and BV_LEN (R30, R35). -/
theorem keeps_bvConfig (h : CommandEnd s i t) (hbvcfg : ∀ n, i ≠ .bvcfg n) :
    t.bvValid = s.bvValid ∧ t.bvLen = s.bvLen := by
  cases h with
  | bvcfg => exact absurd rfl (hbvcfg _)
  | _ => simp

/-- Only BVCFG and the three setting commands write the vector (R35). -/
theorem keeps_bv (h : CommandEnd s i t) (hbvcfg : ∀ n, i ≠ .bvcfg n) (hbit : ∀ v x, i ≠ .bvsetbit v x)
    (hbits : ∀ sel c, i ≠ .bvsetbits sel c) (hbytes : ∀ c a, i ≠ .bvsetbytes c a) : t.bv = s.bv := by
  cases h with
  | bvcfg => exact absurd rfl (hbvcfg _)
  | bvsetbit => exact absurd rfl (hbit _ _)
  | bvsetbits => exact absurd rfl (hbits _ _)
  | bvsetbytes => exact absurd rfl (hbytes _ _)
  | _ => simp

/-- Only the four commands with a DBUF destination write DBUF (R32). -/
theorem keeps_dbuf (h : CommandEnd s i t) (hbytes : ∀ c a, i ≠ .bvgetbytes c a) (hcrc : ∀ l d a, i ≠ .crc16w l d a)
    (henc : ∀ d a, i ≠ .rsenc d a) (hcor : ∀ a, i ≠ .rscor a) : t.dbuf = s.dbuf := by
  cases h with
  | bvgetbytes => exact absurd rfl (hbytes _ _)
  | crc16w => exact absurd rfl (hcrc _ _ _)
  | rsenc => exact absurd rfl (henc _ _)
  | rscorCorrect => exact absurd rfl (hcor _)
  | _ => simp

/-- Only the result-producing commands write RES0 and RES1 (R28). -/
theorem keeps_result (h : CommandEnd s i t) (hbit : ∀ x, i ≠ .bvgetbit x) (hbits : ∀ sel c, i ≠ .bvgetbits sel c)
    (hcrc : ∀ l a, i ≠ .crc16 l a) (hcrcw : ∀ l d a, i ≠ .crc16w l d a) (hmul : ∀ m a b, i ≠ .gfmul m a b)
    (hdiv : ∀ m a b, i ≠ .gfdiv m a b) (hexp : ∀ m e, i ≠ .gfexp m e) (hlog : ∀ m x, i ≠ .gflog m x)
    (hcor : ∀ a, i ≠ .rscor a) : t.res0 = s.res0 ∧ t.res1 = s.res1 := by
  cases h with
  | bvgetbit => exact absurd rfl (hbit _)
  | bvgetbits => exact absurd rfl (hbits _ _)
  | crc16 => exact absurd rfl (hcrc _ _)
  | crc16w => exact absurd rfl (hcrcw _ _ _)
  | gfmul => exact absurd rfl (hmul _ _ _)
  | gfdiv => exact absurd rfl (hdiv _ _ _)
  | gfexp => exact absurd rfl (hexp _ _)
  | gflog => exact absurd rfl (hlog _ _)
  | rscorReport => exact absurd rfl (hcor _)
  | rscorCorrect => exact absurd rfl (hcor _)
  | _ => simp

end CommandEnd

/-! ### PRIM_POLY under every step -/

@[simp] theorem State.hostRead_prim (s : State) (loc : Location) : (s.hostRead loc).prim = s.prim := by
  obtain ⟨_, _, h⟩ | ⟨_, h⟩ := hostRead_cases s loc <;> simp [h]

@[simp] theorem State.writeCtrl_prim (s : State) (data : Word) : (s.writeCtrl data).prim = s.prim := by
  unfold State.writeCtrl
  split <;> simp

@[simp] theorem State.writeLocation_prim (s : State) (loc : Location) (data : Word) :
    (s.writeLocation loc data).prim = s.prim := by
  cases loc <;> simp [State.writeLocation]

@[simp] theorem State.hostWrite_prim (s : State) (loc : Location) (data : Word) : (s.hostWrite loc data).prim = s.prim := by
  obtain ⟨_, _, h⟩ | ⟨_, h⟩ := hostWrite_cases s loc data <;> simp [h]

/-- No command and no undecodable word changes PRIM_POLY (R15). -/
theorem engineStep_keeps_prim (h : engineStep s = .next t) : t.prim = s.prim := by
  obtain ⟨i, _, hexec⟩ | ⟨_, _, rfl⟩ := engineStep_cases h
  · exact (exec_commandEnd hexec).keeps_host_state.1
  · simp

/-- No access of the host and no reset changes PRIM_POLY (R15). -/
theorem hostStep_keeps_prim (h : s.hostStep = .next t) : t.prim = s.prim := by
  obtain ⟨_, rfl⟩ | ⟨_, _, _, _, _, rfl⟩ | ⟨_, _, _, _, _, _, rfl⟩ | ⟨_, _, rfl⟩ | ⟨_, _, rfl⟩ := hostStep_cases h <;>
    simp [apply_ite State.prim]

theorem step_keeps_prim (h : step s = .next t) : t.prim = s.prim := by
  obtain ⟨_, hengine⟩ | ⟨_, hhost⟩ := step_cases h
  · exact engineStep_keeps_prim hengine
  · exact hostStep_keeps_prim hhost

/-- Settles O44: PRIM_POLY agent by agent, and the rest from the table of what each command may write. -/
theorem stateIsWrittenOnlyByItsCommands : Obligations.StateIsWrittenOnlyByItsCommands := by
  refine ⟨fun _ _ => step_keeps_prim, fun s t i h => ?_⟩
  have hend := exec_commandEnd h
  obtain ⟨hprim, hie, hovr, hcmdl, harg0, harg1, hmapram, hepoch, hdraws, hdelay, hinputs, hdata⟩ :=
    hend.keeps_host_state
  exact ⟨hprim, hie, hovr, hcmdl, harg0, harg1, hmapram, hepoch, hdraws, hdelay, hinputs, hdata,
    hend.keeps_rsConfig, hend.keeps_bvConfig, hend.keeps_bv, hend.keeps_dbuf, hend.keeps_result⟩

end Sys2Proof.Machine

/-! The statements of spec/10_state.md: the invariant of the core, the registers as the host reads and writes them, and
the two resets. -/

namespace Sys2Proof.Machine

variable {s t : State} {i : Instr}

/-! ### The map of the window -/

/-- The words of the DBUF window, 0x100 to 0x1FC (R22). -/
theorem locate_dbuf {a : Nat} (ha : a < 0x100) : locate (0x100 + a) = .dbuf a := by
  unfold locate
  rw [if_neg (by omega), if_pos (by omega), Nat.add_sub_cancel_left]

/-- The words of the MAPRAM window, 0x200 to 0x23C (R22). -/
theorem locate_mapram {x : Nat} (hx : x < 0x40) : locate (0x200 + x) = .mapram x := by
  unfold locate
  rw [if_neg (by omega), if_neg (by omega), if_pos (by omega), Nat.add_sub_cancel_left]

/-- Nothing stands above the MAPRAM window (R34). -/
theorem locate_of_ge {offset : Nat} (h : 0x240 ≤ offset) : locate offset = .reserved := by
  unfold locate
  rw [if_neg (by omega), if_neg (by omega), if_neg (by omega)]

/-- Below the DBUF window stand the registers and reserved words (R22, R34). -/
theorem locate_of_lt {offset : Nat} (h : offset < 0x100) :
    locate offset ∈ [.id, .ctrl, .status, .cmd, .arg0, .arg1, .res0, .res1, .rscfgr, .bvcfgr, .bvd0, .bvd1,
      .reserved] := by
  unfold locate
  rw [if_pos h]
  split <;> simp

/-- Reserved words stand between BVD1 and the DBUF window (R34). -/
theorem locate_of_reserved_low {offset : Nat} (hlo : 0x030 ≤ offset) (hhi : offset < 0x100) :
    locate offset = .reserved := by
  unfold locate
  rw [if_pos hhi]
  split
  iterate 12 omega
  rfl

/-- An offset is below the DBUF window, in it, in the MAPRAM window, or above. -/
theorem offset_cases (offset : Nat) :
    offset < 0x100 ∨ (∃ a, a < 0x100 ∧ offset = 0x100 + a) ∨ (∃ x, x < 0x40 ∧ offset = 0x200 + x) ∨ 0x240 ≤ offset := by
  by_cases hlow : offset < 0x100
  · exact .inl hlow
  by_cases hdbuf : offset < 0x200
  · exact .inr (.inl ⟨offset - 0x100, by omega⟩)
  by_cases hmap : offset < 0x240
  · exact .inr (.inr (.inl ⟨offset - 0x200, by omega⟩))
  · exact .inr (.inr (.inr (by omega)))

theorem locate_eq_dbuf_iff {offset a : Nat} : locate offset = .dbuf a ↔ offset = 0x100 + a ∧ a < 0x100 := by
  refine ⟨fun h => ?_, fun ⟨hoff, ha⟩ => hoff ▸ locate_dbuf ha⟩
  obtain hlow | ⟨b, hb, rfl⟩ | ⟨x, hx, rfl⟩ | hhigh := offset_cases offset
  · have hmem := locate_of_lt hlow
    simp [h] at hmem
  · rw [locate_dbuf hb] at h
    cases h
    exact ⟨rfl, hb⟩
  · rw [locate_mapram hx] at h
    cases h
  · rw [locate_of_ge hhigh] at h
    cases h

theorem locate_eq_mapram_iff {offset x : Nat} : locate offset = .mapram x ↔ offset = 0x200 + x ∧ x < 0x40 := by
  refine ⟨fun h => ?_, fun ⟨hoff, hx⟩ => hoff ▸ locate_mapram hx⟩
  obtain hlow | ⟨b, hb, rfl⟩ | ⟨y, hy, rfl⟩ | hhigh := offset_cases offset
  · have hmem := locate_of_lt hlow
    simp [h] at hmem
  · rw [locate_dbuf hb] at h
    cases h
  · rw [locate_mapram hy] at h
    cases h
    exact ⟨rfl, hy⟩
  · rw [locate_of_ge hhigh] at h
    cases h

/-! ### Bounds of the bit vector -/

/-- A vector is below `2^n` exactly when its bits from `n` on are 0 (R35). -/
theorem toNat_lt_two_pow_iff (v : BitVec 64) (n : Nat) :
    v.toNat < 2 ^ n ↔ ∀ p, p < 64 → n ≤ p → v.getLsbD p = false := by
  constructor
  · intro hv p _ hn
    rw [← BitVec.testBit_toNat]
    exact Nat.testBit_lt_two_pow (hv.trans_le (Nat.pow_le_pow_right two_pos hn))
  · intro hbits
    refine Nat.lt_pow_two_of_testBit _ fun p hn => ?_
    rw [BitVec.testBit_toNat]
    by_cases hp : p < 64
    · exact hbits p hp hn
    · exact BitVec.getLsbD_of_ge v p (by omega)

theorem setBit_lt {v : BitVec 64} {n x : Nat} (b : Bool) (hv : v.toNat < 2 ^ n) (hx : x < n) :
    (setBit v x b).toNat < 2 ^ n := by
  rw [toNat_lt_two_pow_iff] at hv ⊢
  intro p hp hn
  rw [getLsbD_setBit v x p b hp, if_neg (by omega)]
  exact hv p hp hn

theorem scatterBits_lt {map : Nat → Nat} {n count : Nat} (vin : BitVec 64) (hmap : ∀ x, x < count → map x < n) :
    (scatterBits map vin count).toNat < 2 ^ n := by
  induction count with
  | zero => simp [scatterBits]
  | succ count ih => exact setBit_lt _ (ih fun x hx => hmap x (by omega)) (hmap count (by omega))

theorem packBytes_lt {bytes : List Byte} {n : Nat} (hn : 8 * bytes.length ≤ n) : (packBytes bytes).toNat < 2 ^ n := by
  rw [toNat_lt_two_pow_iff]
  intro p hp hnp
  rw [getLsbD_packBytes bytes p hp, List.getD_eq_default _ _ (by omega), BitVec.getLsbD_zero]

/-! ### Lengths of the Reed-Solomon unit's results -/

theorem length_polyAdd (p q : List Byte) : (polyAdd p q).length = max p.length q.length := by
  induction p generalizing q with
  | nil => simp [polyAdd]
  | cons a p ih =>
    cases q with
    | nil => simp [polyAdd]
    | cons b q => simp [polyAdd, ih]

/-- The shift register keeps its length (R196). -/
theorem length_lfsrStep (f : GField) (g rem : List Byte) (d : Byte) (hrem : 0 < rem.length) :
    (lfsrStep f g rem d).length = rem.length := by
  simp only [lfsrStep, length_polyAdd, polyScale, List.length_cons, List.length_dropLast, List.length_map,
    List.length_take]
  omega

theorem length_foldl_lfsrStep (f : GField) (g data rem : List Byte) (hrem : 0 < rem.length) :
    (data.foldl (lfsrStep f g) rem).length = rem.length := by
  induction data generalizing rem with
  | nil => rfl
  | cons d data ih =>
    have hstep := length_lfsrStep f g rem d hrem
    rw [List.foldl_cons, ih _ (hstep ▸ hrem), hstep]

/-- There are r parity symbols (R196). -/
theorem length_rsParity (f : GField) {r : Nat} (data : List Byte) (hr : 0 < r) : (rsParity f r data).length = r := by
  rw [rsParity, List.length_reverse, length_foldl_lfsrStep _ _ _ _ (by simpa using hr), List.length_replicate]

/-- A corrected block is as long as the block received (R205). -/
theorem length_of_rsDecode_corrected {f : GField} {r len deg : Nat} {block corrected : List Byte}
    (h : rsDecode f r block = .corrected corrected len deg) : corrected.length = block.length := by
  unfold rsDecode at h
  dsimp only at h
  split_ifs at h
  obtain ⟨rfl, -, -⟩ := RsVerdict.corrected.inj h
  simp [forneyCorrect]

/-! ### What the parts of the invariant depend on -/

theorem bvInv_congr (hvalid : t.bvValid = s.bvValid) (hlen : t.bvLen = s.bvLen) (hbv : t.bv = s.bv) :
    t.bvInv ↔ s.bvInv := by
  rw [State.bvInv, hvalid, hlen, hbv]

theorem rsInv_congr (hvalid : t.rsValid = s.rsValid) (hm : t.rsM = s.rsM) (hk : t.rsK = s.rsK) (hr : t.rsR = s.rsR) :
    t.rsInv ↔ s.rsInv := by
  rw [State.rsInv, hvalid, hm, hk, hr]

theorem primInv_congr (hprim : t.prim = s.prim) : t.primInv ↔ s.primInv := by
  simp only [State.primInv, field_congr hprim]

/-- A valid Reed-Solomon configuration meets the constraints of RSCFG (R36, R191). -/
theorem rsConfigOk_of_rsInv (h : s.rsInv) (hvalid : s.rsValid = true) :
    rsConfigOk s.rsM.toNat s.rsK.toNat s.rsR.toNat = true := by
  rwa [State.rsInv, if_pos hvalid] at h

/-- The invariant is about the core, and no field of the model's own is in it. -/
theorem inv_coreState_iff : s.coreState.Inv ↔ s.Inv := Iff.rfl

theorem inv_of_coreState_eq (heq : t.coreState = s.coreState) (h : s.Inv) : t.Inv := by
  rwa [← inv_coreState_iff, heq]

/-! ### The engine keeps the invariant -/

theorem endCommand_statusInv (s : State) (o : CmdOutcome) : (s.endCommand o).statusInv := by
  cases o <;> simp [State.statusInv]

theorem CommandEnd.statusInv (h : CommandEnd s i t) : t.statusInv := by
  cases h <;> exact endCommand_statusInv _ _

/-- A size BVCFG accepts is one the vector may have (R35, R135). -/
theorem setBvConfig_bvInv (s : State) {n : Byte} (hok : bvSizeOk n.toNat = true) :
    (s.setBvConfig true (n.setWidth 7)).bvInv := by
  obtain ⟨hne, hmod, hle⟩ := of_decide_eq_true hok
  have hlen : (n.setWidth 7).toNat = n.toNat := by
    rw [BitVec.toNat_setWidth]
    omega
  simp only [State.bvInv, State.setBvConfig_bvLen, State.setBvConfig_bvValid, State.setBvConfig_bv, hlen]
  simpa using ⟨hmod, hle, hne⟩

theorem exec_keeps_bvInv (hexec : exec i s = .next t) (h : s.bvInv) : t.bvInv := by
  have hend := exec_commandEnd hexec
  obtain ⟨hmod, hle, hvalid, hbits⟩ := h
  cases i with
  | bvcfg n =>
    obtain ⟨hok, rfl⟩ | ⟨_, rfl⟩ := execBvcfg_cases hexec
    · exact setBvConfig_bvInv s hok
    · simp [State.bvInv]
  | bvsetbit v x =>
    obtain ⟨_, rfl⟩ | ⟨_, _, rfl⟩ | ⟨_, hx, rfl⟩ := execBvsetbit_cases hexec
    · exact ⟨hmod, hle, hvalid, hbits⟩
    · exact ⟨hmod, hle, hvalid, hbits⟩
    · exact ⟨hmod, hle, hvalid, setBit_lt v hbits hx⟩
  | bvsetbits sel c =>
    obtain ⟨_, rfl⟩ | ⟨_, _, ⟨_, rfl⟩ | ⟨_, _, rfl⟩ | ⟨_, _, _, rfl⟩ | ⟨_, _, hmap, rfl⟩⟩ := execBvsetbits_cases hexec
    iterate 4 exact ⟨hmod, hle, hvalid, hbits⟩
    exact ⟨hmod, hle, hvalid, scatterBits_lt _ ((mapOk_iff ..).1 hmap)⟩
  | bvsetbytes c a =>
    obtain ⟨_, rfl⟩ | ⟨_, _, rfl⟩ | ⟨_, _, _, rfl⟩ | ⟨_, hc, _, rfl⟩ := execBvsetbytes_cases hexec
    iterate 3 exact ⟨hmod, hle, hvalid, hbits⟩
    refine ⟨hmod, hle, hvalid, packBytes_lt ?_⟩
    rw [length_memRead]
    exact (Nat.mul_le_mul_left 8 hc).trans (Nat.mul_div_le _ _)
  | _ =>
    obtain ⟨hv, hl⟩ := hend.keeps_bvConfig (by simp)
    exact (bvInv_congr hv hl (hend.keeps_bv (by simp) (by simp) (by simp) (by simp))).2 ⟨hmod, hle, hvalid, hbits⟩

/-- A configuration RSCFG accepts is one the unit may hold (R36, R191). -/
theorem setRsConfig_rsInv (s : State) {m k r : Byte} (hok : rsConfigOk m.toNat k.toNat r.toNat = true) :
    (s.setRsConfig true (m.setWidth 4) k r).rsInv := by
  have hm : (m.setWidth 4).toNat = m.toNat := by
    rw [BitVec.toNat_setWidth]
    obtain ⟨_, hm8, _⟩ := (rsConfigOk_iff ..).1 hok
    omega
  simpa [State.rsInv, hm] using hok

theorem exec_keeps_rsInv (hexec : exec i s = .next t) (h : s.rsInv) : t.rsInv := by
  have hend := exec_commandEnd hexec
  cases i with
  | rscfg m k r =>
    obtain ⟨hok, rfl⟩ | ⟨_, rfl⟩ := execRscfg_cases hexec
    · exact setRsConfig_rsInv s hok
    · simp [State.rsInv]
  | _ =>
    obtain ⟨hv, hm, hk, hr⟩ := hend.keeps_rsConfig (by simp)
    exact (rsInv_congr hv hm hk hr).2 h

/-- RSCOR writes back no more than the block it read (R206). -/
theorem applyVerdict_keeps_wf {a n : Nat} (f : GField) (r : Nat) (h : Memory.wf s.dbuf = true) (ha : a + n ≤ 256) :
    Memory.wf (s.applyVerdict a (rsDecode f r (s.memRead a n))).dbuf = true := by
  cases hv : rsDecode f r (s.memRead a n) with
  | clean => exact h
  | uncorrectable reason len deg => exact h
  | corrected block len deg =>
    refine memWrite_keeps_wf h ?_
    rwa [length_of_rsDecode_corrected hv, length_memRead]

/-- Every command that writes DBUF has checked the range it writes (R255). -/
theorem exec_keeps_dbuf_wf (hexec : exec i s = .next t) (hrs : s.rsInv) (h : Memory.wf s.dbuf = true) :
    Memory.wf t.dbuf = true := by
  have hend := exec_commandEnd hexec
  cases i with
  | bvgetbytes c d =>
    obtain ⟨_, rfl⟩ | ⟨_, _, rfl⟩ | ⟨_, _, _, rfl⟩ | ⟨_, _, hrange, rfl⟩ := execBvgetbytes_cases hexec
    iterate 3 exact h
    exact memWrite_keeps_wf h (by simpa using (rangeOk_iff ..).1 hrange)
  | crc16w l d a =>
    obtain ⟨_, rfl⟩ | ⟨hrange, rfl⟩ := execCrc16w_cases hexec
    · exact h
    · exact memWrite_keeps_wf h ((rangeOk_iff ..).1 (Bool.and_eq_true_iff.1 hrange).2)
  | rsenc d a =>
    obtain ⟨_, rfl⟩ | ⟨_, _, rfl⟩ | ⟨_, _, _, rfl⟩ | ⟨hvalid, hrange, _, rfl⟩ := execRsenc_cases hexec
    iterate 3 exact h
    obtain ⟨_, _, hr, _⟩ := (rsConfigOk_iff ..).1 (rsConfigOk_of_rsInv hrs hvalid)
    refine memWrite_keeps_wf h ?_
    rw [length_rsParity _ _ hr]
    exact (rangeOk_iff ..).1 (Bool.and_eq_true_iff.1 hrange).2
  | rscor a =>
    obtain ⟨_, rfl⟩ | ⟨_, _, rfl⟩ | ⟨_, _, _, rfl⟩ | ⟨_, hrange, _, rfl⟩ := execRscor_cases hexec
    iterate 3 exact h
    exact applyVerdict_keeps_wf _ _ h ((rangeOk_iff ..).1 hrange)
  | _ => rwa [hend.keeps_dbuf (by simp) (by simp) (by simp) (by simp)]

/-- Every command keeps the invariant: STATUS from its end, each unit from the commands that write it. -/
theorem exec_keeps_inv (hexec : exec i s = .next t) (h : s.Inv) : t.Inv := by
  obtain ⟨_, hbv, hrs, hprim, hdbuf, hmapram⟩ := h
  have hend := exec_commandEnd hexec
  obtain ⟨hp, _, _, _, _, _, hm, _⟩ := hend.keeps_host_state
  exact ⟨hend.statusInv, exec_keeps_bvInv hexec hbv, exec_keeps_rsInv hexec hrs, (primInv_congr hp).2 hprim,
    exec_keeps_dbuf_wf hexec hrs hdbuf, hm ▸ hmapram⟩

theorem engineStep_keeps_inv (hstep : engineStep s = .next t) (h : s.Inv) : t.Inv := by
  obtain ⟨i, _, hexec⟩ | ⟨_, _, rfl⟩ := engineStep_cases hstep
  · exact exec_keeps_inv hexec h
  · exact ⟨endCommand_statusInv s _, h.2⟩

/-! ### The host's accesses keep the invariant -/

/-- A host read changes nothing of the core (R67). -/
@[simp] theorem hostRead_coreState (s : State) (loc : Location) : (s.hostRead loc).coreState = s.coreState := by
  obtain ⟨_, _, h⟩ | ⟨_, h⟩ := hostRead_cases s loc <;> rw [h] <;> rfl

@[simp] theorem tick_coreState (s : State) : s.tick.coreState = s.coreState := rfl

@[simp] theorem setInputs_coreState (s : State) (inputs : List HostAction) :
    (s.setInputs inputs).coreState = s.coreState := rfl

/-- The bytes an abandoned command could write are taken inside DBUF (R283). -/
theorem abandonRange_le (s : State) : s.abandonRange.1 + s.abandonRange.2 ≤ 256 := by
  unfold State.abandonRange
  split
  · rename_i i _
    have hfst : (s.writableRange i).1 ≤ 256 := by
      cases i <;> simp only [State.writableRange] <;> omega
    dsimp only
    omega
  · simp

theorem abandon_keeps_dbuf_wf (h : Memory.wf s.dbuf = true) : Memory.wf s.abandon.dbuf = true :=
  memWrite_keeps_wf h (by simpa using abandonRange_le s)

/-- Registers and configurations at their reset values meet their parts of the invariant. -/
theorem clearUnits_inv (hprim : s.primInv) (hmem : s.memInv) : s.clearUnits.Inv :=
  ⟨by simp [State.statusInv], by simp [State.bvInv], by simp [State.rsInv], hprim, hmem⟩

theorem softReset_keeps_inv (ie : Bool) (h : s.Inv) : (s.softReset ie).Inv := by
  obtain ⟨_, _, _, hprim, hdbuf, hmapram⟩ := h
  unfold State.softReset
  split
  · exact clearUnits_inv (s := s.abandon) hprim ⟨abandon_keeps_dbuf_wf hdbuf, hmapram⟩
  · exact clearUnits_inv hprim ⟨hdbuf, hmapram⟩

theorem powerOn_inv (hprim : s.primInv) : s.powerOn.Inv :=
  clearUnits_inv (s := s.powerOn) hprim ⟨reset_dbuf_wf, reset_mapram_wf⟩

theorem writeCtrl_keeps_inv (data : Word) (h : s.Inv) : (s.writeCtrl data).Inv := by
  unfold State.writeCtrl
  split
  · exact softReset_keeps_inv _ h
  · exact h

theorem writeStatus_keeps_inv (data : Word) (h : s.Inv) : (s.writeStatus data).Inv := by
  obtain ⟨⟨herr, hexcl, hbusy⟩, hunits⟩ := h
  refine ⟨⟨herr, hexcl, fun hb => ?_⟩, hunits⟩
  obtain ⟨hdone, hrest⟩ := hbusy hb
  exact ⟨by simp [hdone], hrest⟩

theorem acceptCommand_keeps_inv (w : Word) (h : s.Inv) : (s.acceptCommand w).Inv :=
  ⟨by simp [State.statusInv], h.2⟩

/-- A word written to an aligned offset of the window stays inside DBUF or MAPRAM (R60, R62). -/
theorem writeLocation_keeps_inv {offset : Nat} (data : Word) (haligned : offset % 4 = 0) (h : s.Inv) :
    (s.writeLocation (locate offset) data).Inv := by
  cases hloc : locate offset with
  | ctrl => exact writeCtrl_keeps_inv data h
  | status => exact writeStatus_keeps_inv data h
  | cmd => exact acceptCommand_keeps_inv data h
  | dbuf a =>
    obtain ⟨hstatus, hbv, hrs, hprim, hdbuf, hmapram⟩ := h
    obtain ⟨rfl, ha⟩ := locate_eq_dbuf_iff.1 hloc
    exact ⟨hstatus, hbv, hrs, hprim, memWrite_keeps_wf hdbuf (by simp [laneBytes]; omega), hmapram⟩
  | mapram x =>
    obtain ⟨hstatus, hbv, hrs, hprim, hdbuf, hmapram⟩ := h
    obtain ⟨rfl, hx⟩ := locate_eq_mapram_iff.1 hloc
    exact ⟨hstatus, hbv, hrs, hprim, hdbuf, mapWrite_keeps_wf hmapram (by simp [laneEntries]; omega)⟩
  | _ => exact h

theorem hostWrite_keeps_inv {offset : Nat} (data : Word) (haligned : offset % 4 = 0) (h : s.Inv) :
    (s.hostWrite (locate offset) data).Inv := by
  obtain ⟨_, _, hw⟩ | ⟨_, hw⟩ := hostWrite_cases s (locate offset) data
  · rw [hw]
    exact h
  · rw [hw]
    exact writeLocation_keeps_inv data haligned h

theorem hostStep_keeps_inv (hstep : s.hostStep = .next t) (h : s.Inv) : t.Inv := by
  obtain ⟨_, rfl⟩ | ⟨_, _, _, _, _, rfl⟩ | ⟨_, _, _, rest, _, haccess, rfl⟩ | ⟨_, _, rfl⟩ | ⟨rest, _, rfl⟩ :=
    hostStep_cases hstep
  · exact h
  · exact inv_of_coreState_eq (by simp) h
  · exact hostWrite_keeps_inv _ ((accessProblem_eq_none_iff ..).1 haccess).2.2
      (inv_of_coreState_eq (t := (s.setInputs rest).tick) (by simp) h)
  · exact inv_of_coreState_eq (by simp [apply_ite State.coreState]) h
  · obtain ⟨_, _, _, hprim, _⟩ := h
    exact powerOn_inv (s := s.setInputs rest) hprim

/-- Settles O56: the engine's step and the host's, each in its own section above. -/
theorem everyStepKeepsTheInvariant : Obligations.EveryStepKeepsTheInvariant := by
  intro s t h hstep
  obtain ⟨_, hengine⟩ | ⟨_, hhost⟩ := step_cases hstep
  · exact engineStep_keeps_inv hengine h
  · exact hostStep_keeps_inv hhost h

/-- The spec's default polynomials are primitive (R171, D15). -/
theorem reset_primInv : State.reset.primInv := by decide +kernel

/-- Settles O57: part by part; only PRIM_POLY's takes a computation. -/
theorem resetMeetsTheInvariant : Obligations.ResetMeetsTheInvariant :=
  ⟨by decide, by decide, by decide, reset_primInv, reset_dbuf_wf, reset_mapram_wf⟩

/-! ### The registers as the host reads them -/

theorem getLsbD_flagBit (b : Bool) : (flagBit b).getLsbD 0 = b := by cases b <;> rfl

/-- CTRL reads as IE alone (R24). -/
theorem ctrlWord_eq (s : State) : s.ctrlWord = if s.ie then 1#32 else 0#32 := by
  unfold State.ctrlWord
  cases s.ie <;> rfl

/-- SRST reads 0 (R24). -/
theorem ctrlWord_srst (s : State) : s.ctrlWord.getLsbD 1 = false := by
  rw [ctrlWord_eq]
  split <;> rfl

/-- The flags of STATUS (R25). -/
theorem statusWord_flags (s : State) :
    s.statusWord.getLsbD 0 = s.busy ∧ s.statusWord.getLsbD 1 = s.done ∧ s.statusWord.getLsbD 2 = s.err ∧
    s.statusWord.getLsbD 3 = s.noop ∧ s.statusWord.getLsbD 4 = s.ovr := by
  unfold State.statusWord
  simp only [BitVec.getLsbD_append (n := 31) (m := 1), BitVec.getLsbD_append]
  simp [-BitVec.getLsbD_eq_getElem, getLsbD_flagBit]

/-- ERRCODE and the reserved bits of STATUS (R25). -/
theorem statusWord_fields (s : State) :
    s.statusWord.extractLsb' 5 3 = 0#3 ∧ s.statusWord.extractLsb' 8 4 = errcodeBits s.errcode ∧
    s.statusWord.extractLsb' 12 20 = 0#20 := by
  unfold State.statusWord
  simp (disch := decide) only [BitVec.extractLsb'_append_eq_of_le (v := 31) (w := 1),
    BitVec.extractLsb'_append_eq_of_le, BitVec.extractLsb'_append_eq_of_add_le]
  simp

/-- The fields of RSCFGR (R29). -/
theorem rscfgrWord_fields (s : State) :
    s.rscfgrWord.extractLsb' 0 4 = s.rsM ∧ s.rscfgrWord.extractLsb' 4 4 = 0#4 ∧
    s.rscfgrWord.extractLsb' 8 8 = s.rsK ∧ s.rscfgrWord.extractLsb' 16 8 = s.rsR ∧
    s.rscfgrWord.extractLsb' 24 7 = 0#7 ∧ s.rscfgrWord.getLsbD 31 = s.rsValid := by
  unfold State.rscfgrWord
  simp (disch := decide) only [BitVec.extractLsb'_append_eq_of_le (v := 28) (w := 4),
    BitVec.extractLsb'_append_eq_of_add_le (v := 28) (w := 4), BitVec.extractLsb'_append_eq_of_le,
    BitVec.extractLsb'_append_eq_of_add_le, BitVec.getLsbD_append (n := 28) (m := 4), BitVec.getLsbD_append]
  simp [-BitVec.getLsbD_eq_getElem, getLsbD_flagBit]

/-- The fields of BVCFGR (R30). -/
theorem bvcfgrWord_fields (s : State) :
    s.bvcfgrWord.extractLsb' 0 7 = s.bvLen ∧ s.bvcfgrWord.extractLsb' 7 24 = 0#24 ∧
    s.bvcfgrWord.getLsbD 31 = s.bvValid := by
  unfold State.bvcfgrWord
  simp (disch := decide) only [BitVec.extractLsb'_append_eq_of_le (v := 25) (w := 7),
    BitVec.extractLsb'_append_eq_of_add_le (v := 25) (w := 7), BitVec.extractLsb'_append_eq_of_add_le,
    BitVec.getLsbD_append (n := 25) (m := 7), BitVec.getLsbD_append]
  simp [-BitVec.getLsbD_eq_getElem, getLsbD_flagBit]

/-- Lane j of a word put together from four bytes is byte j (R62). -/
theorem extractLsb'_laneWord (byte : Nat → Byte) {j : Nat} (hj : j < 4) :
    (laneWord (byte 0) (byte 1) (byte 2) (byte 3)).extractLsb' (8 * j) 8 = byte j := by
  unfold laneWord
  interval_cases j <;>
    simp (disch := decide) only [BitVec.extractLsb'_append_eq_of_le (v := 24) (w := 8),
      BitVec.extractLsb'_append_eq_of_add_le (v := 24) (w := 8), BitVec.extractLsb'_append_eq_of_le,
      BitVec.extractLsb'_append_eq_of_add_le] <;>
    simp

/-- Four neighbouring bytes of the vector make a word of it. -/
theorem laneWord_extractLsb' (v : BitVec 64) (start : Nat) :
    laneWord (v.extractLsb' start 8) (v.extractLsb' (start + 8) 8) (v.extractLsb' (start + 16) 8)
      (v.extractLsb' (start + 24) 8) = v.extractLsb' start 32 := by
  unfold laneWord
  simp (disch := omega) only [BitVec.extractLsb'_append_extractLsb'_eq_extractLsb']

/-- BVD0 is the low word of the vector (R31). -/
theorem view_bvd0 (s : State) : s.view .bvd0 = s.bv.extractLsb' 0 32 := laneWord_extractLsb' s.bv 0

/-- BVD1 is the high word of the vector (R31). -/
theorem view_bvd1 (s : State) : s.view .bvd1 = s.bv.extractLsb' 32 32 := laneWord_extractLsb' s.bv 32

/-- A bit of the vector is read from BVD0 or BVD1 (R31). -/
theorem getLsbD_bv_eq_view (s : State) {p : Nat} (hp : p < 64) :
    s.bv.getLsbD p = if p < 32 then (s.view .bvd0).getLsbD p else (s.view .bvd1).getLsbD (p - 32) := by
  rw [view_bvd0, view_bvd1, BitVec.getLsbD_extractLsb', BitVec.getLsbD_extractLsb']
  split
  · simp [*]
  · rw [show 32 + (p - 32) = p by omega, decide_eq_true (show p - 32 < 32 by omega), Bool.true_and]

/-- Settles O48: the map, then each register's fields. -/
theorem registerViewsAreAsLaidOut : Obligations.RegisterViewsAreAsLaidOut := by
  refine ⟨by decide, fun w hw => locate_dbuf (by omega), fun w hw => locate_mapram (by omega), ?_, fun s => ?_⟩
  · rintro offset - (⟨hlo, hhi⟩ | ⟨hlo, -⟩)
    · exact locate_of_reserved_low hlo (by omega)
    · exact locate_of_ge hlo
  obtain ⟨hbusy, hdone, herr, hnoop, hovr⟩ := statusWord_flags s
  obtain ⟨hlow, hcode, hhigh⟩ := statusWord_fields s
  obtain ⟨hm, hm0, hk, hr, hr0, hrs⟩ := rscfgrWord_fields s
  obtain ⟨hlen, hlen0, hbv⟩ := bvcfgrWord_fields s
  exact ⟨rfl, rfl, rfl, rfl, rfl, rfl, rfl, ctrlWord_eq s, hbusy, hdone, herr, hnoop, hovr, hlow, hcode, hhigh,
    hm, hm0, hk, hr, hr0, hrs, hlen, hlen0, hbv, fun p hp => getLsbD_bv_eq_view s hp,
    fun a j hj => extractLsb'_laneWord (fun j => s.dbufByte (a + j)) hj,
    fun i j hj => extractLsb'_laneWord (fun j => (s.mapEntry (i + j)).setWidth 8) hj⟩

/-! ### The host's writes to an idle core -/

theorem step_eq_hostStep (hturn : s.engineTurn = false) : step s = s.hostStep := by
  rw [step, hturn, if_neg Bool.false_ne_true]

/-- An aligned write to the window is made on the host's turn (R61, R70). -/
theorem step_eq_hostWrite {offset data : Word} {rest : List HostAction} (hturn : s.engineTurn = false)
    (hin : s.inputs = .write .word offset data :: rest) (hwindow : offset.toNat < 0x1000)
    (haligned : offset.toNat % 4 = 0) :
    step s = .next (((s.setInputs rest).tick).hostWrite (locate offset.toNat) data) := by
  have haccess : accessProblem .word offset = none := (accessProblem_eq_none_iff ..).2 ⟨hwindow, rfl, haligned⟩
  rw [step_eq_hostStep hturn, State.hostStep, hin]
  simp only [haccess]

/-- No write to an idle core is dropped (R121, R286). -/
theorem hostWrite_of_idle (hidle : s.busy = false) (loc : Location) (data : Word) :
    s.hostWrite loc data = s.writeLocation loc data := by
  rw [State.hostWrite, hidle, Bool.false_and, if_neg Bool.false_ne_true]

/-- A CTRL write is dropped in no state (R24, R286). -/
@[simp] theorem hostWrite_ctrl (s : State) (data : Word) : s.hostWrite .ctrl data = s.writeCtrl data := by
  simp [State.hostWrite, Location.isOperand, State.writeLocation]

theorem writeCtrl_of_srst {data : Word} (hsrst : data.getLsbD 1 = true) (s : State) :
    s.writeCtrl data = s.softReset (data.getLsbD 0) := by
  rw [State.writeCtrl, if_pos hsrst]

theorem writeCtrl_of_not_srst {data : Word} (hsrst : data.getLsbD 1 = false) (s : State) :
    s.writeCtrl data = s.setIe (data.getLsbD 0) := by
  rw [State.writeCtrl, hsrst, if_neg Bool.false_ne_true]

/-- The host's CTRL write, whoever's command is in flight (R24). -/
theorem step_eq_writeCtrl {data : Word} {rest : List HostAction} (hturn : s.engineTurn = false)
    (hin : s.inputs = .write .word 0x004#32 data :: rest) :
    step s = .next (((s.setInputs rest).tick).writeCtrl data) := by
  rw [step_eq_hostWrite hturn hin (by decide) (by decide), show locate (0x004#32).toNat = .ctrl from rfl,
    hostWrite_ctrl]

/-- Settles O46: each write reaches its register, and the step does nothing else but count the access. -/
theorem idleWritesReachTheirRegisters : Obligations.IdleWritesReachTheirRegisters := by
  intro s offset data rest hidle hin
  have hturn := engineTurn_eq_false_of_idle hidle
  have hstep (hwindow : offset.toNat < 0x1000) (haligned : offset.toNat % 4 = 0) :
      step s = .next (((s.setInputs rest).tick).writeLocation (locate offset.toNat) data) := by
    rw [step_eq_hostWrite hturn hin hwindow haligned, hostWrite_of_idle]
    exact hidle
  refine ⟨?arg0, ?arg1, ?status, ?ctrl⟩
  case ctrl =>
    rintro rfl hsrst
    refine ⟨_, step_eq_writeCtrl hturn hin, ?_⟩
    rw [writeCtrl_of_not_srst hsrst]
    rfl
  all_goals
    rintro rfl
    exact ⟨_, hstep (by decide) (by decide), rfl⟩

/-! ### The two resets -/

theorem step_eq_powerOn {rest : List HostAction} (hturn : s.engineTurn = false)
    (hin : s.inputs = .powerOnReset :: rest) : step s = .next (s.setInputs rest).powerOn := by
  rw [step_eq_hostStep hturn, State.hostStep, hin]

/-- Settles O53: the reset state by evaluation, and the reset input leads to it. -/
theorem powerOnResetClearsEveryRegister : Obligations.PowerOnResetClearsEveryRegister :=
  ⟨by decide, rfl, rfl, rfl, fun _ => rfl, fun _ => rfl,
    fun _ _ hturn hin => ⟨_, step_eq_powerOn hturn hin, rfl, rfl, fun _ => rfl⟩⟩

/-- What a soft reset leaves but DBUF and the model's delay and count of draws (R282). -/
theorem softReset_eq (s : State) (ie : Bool) (dbuf : Memory) (delay draws : Nat) :
    { s.softReset ie with dbuf := dbuf, delay := delay, draws := draws } =
      { State.reset with
        ie := ie, dbuf := dbuf, mapram := s.mapram, prim := s.prim, epoch := s.epoch, delay := delay, draws := draws
        inputs := s.inputs, hostData := s.hostData } := by
  unfold State.softReset
  split <;> rfl

@[simp] theorem softReset_done (s : State) (ie : Bool) : (s.softReset ie).done = false := by
  unfold State.softReset
  split <;> rfl

/-- A soft reset of an idle core keeps DBUF (R282). -/
theorem softReset_dbuf_of_idle (hidle : s.busy = false) (ie : Bool) : (s.softReset ie).dbuf = s.dbuf := by
  rw [State.softReset, hidle, if_neg Bool.false_ne_true]
  rfl

/-- Settles O54: the CTRL write is the soft reset, and the rules above say what it leaves. -/
theorem softResetClearsTheUnits : Obligations.SoftResetClearsTheUnits := by
  intro s data rest hturn hin hsrst
  refine ⟨((s.setInputs rest).tick).softReset (data.getLsbD 0), ?_, softReset_eq .., ?_, ctrlWord_srst _, ?_⟩
  · rw [step_eq_writeCtrl hturn hin, writeCtrl_of_srst hsrst]
  · exact fun hidle => softReset_dbuf_of_idle (s := (s.setInputs rest).tick) hidle _
  · rw [State.irq, softReset_done, Bool.and_false]

end Sys2Proof.Machine

/-! The statements of spec/20_memory.md: the host's reads, the words it writes to DBUF and MAPRAM, the accesses that stop
it, and the ISSUE of a command with the WAIT for its end. -/

namespace Sys2Proof.Machine

variable {s s' t : State}

/-! ### Reads -/

/-- An aligned read of the window is made on the host's turn (R61, R70). -/
theorem step_eq_hostRead {offset : Word} {rest : List HostAction} (hturn : s.engineTurn = false)
    (hin : s.inputs = .read .word offset :: rest) (hwindow : offset.toNat < 0x1000)
    (haligned : offset.toNat % 4 = 0) :
    step s = .next (((s.setInputs rest).tick).hostRead (locate offset.toNat)) := by
  have haccess : accessProblem .word offset = none := (accessProblem_eq_none_iff ..).2 ⟨hwindow, rfl, haligned⟩
  rw [step_eq_hostStep hturn, State.hostStep, hin]
  simp only [haccess]

/-- The words of the window that a command may write: the registers from RES0 to BVD1, and DBUF (R285). -/
theorem drawnWhileBusy_locate_iff {offset : Nat} (haligned : offset % 4 = 0) :
    (locate offset).drawnWhileBusy = true ↔
      (0x018 ≤ offset ∧ offset ≤ 0x02C) ∨ (0x100 ≤ offset ∧ offset < 0x200) := by
  obtain hlow | ⟨a, ha, rfl⟩ | ⟨x, hx, rfl⟩ | hhigh := offset_cases offset
  · by_cases hreg : offset < 0x030
    · have hregisters : ∀ o < 0x030, o % 4 = 0 →
          ((locate o).drawnWhileBusy = true ↔ (0x018 ≤ o ∧ o ≤ 0x02C) ∨ (0x100 ≤ o ∧ o < 0x200)) := by decide
      exact hregisters offset hreg haligned
    · rw [locate_of_reserved_low (by omega) hlow]
      simp only [Location.drawnWhileBusy, Bool.false_eq_true, false_iff]
      omega
  · rw [locate_dbuf ha]
    simp only [Location.drawnWhileBusy, true_iff]
    omega
  · rw [locate_mapram hx]
    simp only [Location.drawnWhileBusy, Bool.false_eq_true, false_iff]
    omega
  · rw [locate_of_ge hhigh]
    simp only [Location.drawnWhileBusy, Bool.false_eq_true, false_iff]
    omega

/-- A state with the core of `s` differs from `s` in the model's own fields alone. -/
theorem eq_of_coreState_eq (h : t.coreState = s.coreState) :
    { t with inputs := s.inputs, delay := s.delay, draws := s.draws, hostData := s.hostData } = s :=
  congrArg (fun c : State =>
    { c with inputs := s.inputs, delay := s.delay, draws := s.draws, hostData := s.hostData }) h

@[simp] theorem State.hostRead_inputs (s : State) (loc : Location) : (s.hostRead loc).inputs = s.inputs := by
  obtain ⟨_, _, h⟩ | ⟨_, h⟩ := hostRead_cases s loc <;> simp [h]

/-- No location shows the list of actions to come or the count of accesses (R22). -/
theorem view_tick_setInputs (s : State) (inputs : List HostAction) (loc : Location) :
    (s.setInputs inputs).tick.view loc = s.view loc := by
  cases loc <;> rfl

/-- Settles O49: the core is that of `s`, and the two cases of a read are those of the statement. -/
theorem readsHaveNoSideEffects : Obligations.ReadsHaveNoSideEffects := by
  intro s offset rest hturn hin haligned hwindow
  have hiff := drawnWhileBusy_locate_iff haligned
  refine ⟨_, step_eq_hostRead hturn hin hwindow haligned, eq_of_coreState_eq (by simp), by simp, ?_⟩
  obtain ⟨hbusy, hdrawn, hread⟩ | ⟨hplain, hread⟩ := hostRead_cases ((s.setInputs rest).tick) (locate offset.toNat)
  · rw [hread, if_pos ⟨hbusy, hiff.1 hdrawn⟩]
    exact ⟨rfl, rfl⟩
  · rw [hread, if_neg (by rw [← hiff]; simpa using hplain)]
    exact ⟨view_tick_setInputs .., rfl⟩

/-! ### The lanes of a word -/

theorem getElem?_laneBytes (data : Word) {j : Nat} (hj : j < 4) :
    (laneBytes data)[j]? = some (data.extractLsb' (8 * j) 8) := by
  interval_cases j <;> rfl

theorem getElem?_laneEntries (data : Word) {j : Nat} (hj : j < 4) :
    (laneEntries data)[j]? = some (data.extractLsb' (8 * j) 6) := by
  interval_cases j <;> rfl

/-- A word is put together again from its four bytes (R62). -/
theorem laneWord_bytes (data : Word) :
    laneWord (data.extractLsb' 0 8) (data.extractLsb' 8 8) (data.extractLsb' 16 8) (data.extractLsb' 24 8) = data := by
  unfold laneWord
  simp (disch := omega) only [BitVec.extractLsb'_append_extractLsb'_eq_extractLsb']
  exact BitVec.extractLsb'_eq_self

theorem laneWord_and (a b c d a' b' c' d' : Byte) :
    laneWord a b c d &&& laneWord a' b' c' d' = laneWord (a &&& a') (b &&& b') (c &&& c') (d &&& d') := by
  show (d ++ c ++ b ++ a : BitVec (8 + 8 + 8 + 8)) &&& (d' ++ c' ++ b' ++ a') = _
  simp only [Laws.append_and]
  rfl

/-- Bits 5:0 of a byte lane, as a byte (R64). -/
theorem setWidth_entry (data : Word) (start : Nat) :
    (data.extractLsb' start 6).setWidth 8 = data.extractLsb' start 8 &&& 0x3F#8 := by
  apply BitVec.eq_of_getLsbD_eq
  intro i hi
  interval_cases i <;> simp

/-! ### DBUF and MAPRAM words -/

theorem dbufByte_writeLanes (s : State) (a : Nat) (data : Word) {j : Nat} (hj : j < 4) :
    (s.memWrite a (laneBytes data)).dbufByte (a + j) = data.extractLsb' (8 * j) 8 := by
  rw [dbufByte_memWrite, if_pos (by omega), Nat.add_sub_cancel_left, getElem?_laneBytes data hj, Option.getD_some]

theorem dbufByte_writeLanes_of_outside (s : State) {a c : Nat} (data : Word) (hc : c < a ∨ a + 4 ≤ c) :
    (s.memWrite a (laneBytes data)).dbufByte c = s.dbufByte c := by
  have hnone (hac : a ≤ c) : (laneBytes data)[c - a]? = none :=
    List.getElem?_eq_none (by simp [laneBytes]; omega)
  rw [dbufByte_memWrite]
  split
  · rw [hnone ‹_›, Option.getD_none]
  · rfl

theorem mapEntry_writeLanes (s : State) (i : Nat) (data : Word) {j : Nat} (hj : j < 4) :
    (s.mapWrite i (laneEntries data)).mapEntry (i + j) = data.extractLsb' (8 * j) 6 := by
  rw [mapEntry_mapWrite, if_pos (by omega), Nat.add_sub_cancel_left, getElem?_laneEntries data hj, Option.getD_some]

theorem mapEntry_writeLanes_of_outside (s : State) {i c : Nat} (data : Word) (hc : c < i ∨ i + 4 ≤ c) :
    (s.mapWrite i (laneEntries data)).mapEntry c = s.mapEntry c := by
  have hnone (hic : i ≤ c) : (laneEntries data)[c - i]? = none :=
    List.getElem?_eq_none (by simp [laneEntries]; omega)
  rw [mapEntry_mapWrite]
  split
  · rw [hnone ‹_›, Option.getD_none]
  · rfl

/-- A word written to the DBUF window reads back whole (R62). -/
theorem view_dbuf_writeLanes (s : State) (a : Nat) (data : Word) :
    (s.memWrite a (laneBytes data)).view (.dbuf a) = data := by
  have hlane {j : Nat} (hj : j < 4) := dbufByte_writeLanes s a data hj
  rw [State.view, hlane (j := 1) (by decide), hlane (j := 2) (by decide), hlane (j := 3) (by decide),
    show (s.memWrite a (laneBytes data)).dbufByte a = _ from hlane (j := 0) (by decide)]
  exact laneWord_bytes data

/-- A word written to the MAPRAM window reads back with bits 7:6 of each lane 0 (R64). -/
theorem view_mapram_writeLanes (s : State) (i : Nat) (data : Word) :
    (s.mapWrite i (laneEntries data)).view (.mapram i) = data &&& 0x3F3F3F3F#32 := by
  have hlane {j : Nat} (hj : j < 4) := mapEntry_writeLanes s i data hj
  rw [State.view, hlane (j := 1) (by decide), hlane (j := 2) (by decide), hlane (j := 3) (by decide),
    show (s.mapWrite i (laneEntries data)).mapEntry i = _ from hlane (j := 0) (by decide)]
  simp only [setWidth_entry, ← laneWord_and]
  exact congrArg (· &&& 0x3F3F3F3F#32) (laneWord_bytes data)

/-- An aligned word written to an idle core's window reaches its location (R61, R70, R286). -/
theorem step_eq_writeLocation {offset : Nat} {data : Word} {rest : List HostAction} (hidle : s.busy = false)
    (hin : s.inputs = .write .word (BitVec.ofNat 32 offset) data :: rest) (hwindow : offset < 0x1000)
    (haligned : offset % 4 = 0) :
    step s = .next (((s.setInputs rest).tick).writeLocation (locate offset) data) := by
  have hoffset : (BitVec.ofNat 32 offset).toNat = offset := by rw [BitVec.toNat_ofNat]; omega
  rw [step_eq_hostWrite (engineTurn_eq_false_of_idle hidle) hin (by omega) (by omega), hoffset, hostWrite_of_idle]
  exact hidle

/-- Settles O50: the write reaches its location, and the lane rules say what it leaves there and elsewhere. -/
theorem windowWordsLandInTheirLanes : Obligations.WindowWordsLandInTheirLanes := by
  intro s data w rest hidle
  refine ⟨fun hw hin => ?dbuf, fun hw hin => ?mapram⟩
  case dbuf =>
    have hstep := step_eq_writeLocation hidle hin (by omega) (by omega)
    rw [locate_dbuf (by omega)] at hstep ⊢
    exact ⟨_, hstep, fun _ => dbufByte_writeLanes _ _ _, fun _ => dbufByte_writeLanes_of_outside _ _, rfl,
      view_dbuf_writeLanes _ _ _⟩
  case mapram =>
    have hstep := step_eq_writeLocation hidle hin (by omega) (by omega)
    rw [locate_mapram (by omega)] at hstep ⊢
    exact ⟨_, hstep, fun _ => mapEntry_writeLanes _ _ _, fun _ => mapEntry_writeLanes_of_outside _ _, rfl,
      view_mapram_writeLanes _ _ _⟩

/-! ### Accesses that stop the host -/

/-- What lies outside the window is the platform's (R68). -/
theorem accessProblem_of_outside (width : AccessWidth) {offset : Word} (h : 0x1000 ≤ offset.toNat) :
    accessProblem width offset = some (.inr .outsideWindow) := by
  rw [accessProblem, if_pos h]

/-- Inside the window only aligned words are supported (R61). -/
theorem accessProblem_of_unsupported {width : AccessWidth} {offset : Word} (hwindow : offset.toNat < 0x1000)
    (h : width ≠ .word ∨ offset.toNat % 4 ≠ 0) :
    accessProblem width offset = some (.inl (.unsupportedHostAccess Config.subwordResponse)) := by
  rw [accessProblem, if_neg (by omega), if_neg (by tauto)]

/-- A host access with a problem, read or write, ends the host's step in that fault or refusal (R61, R68). -/
theorem step_of_accessProblem {width : AccessWidth} {offset data : Word} {rest : List HostAction}
    {problem : Fault ⊕ Refusal} (hturn : s.engineTurn = false)
    (hin : s.inputs = .read width offset :: rest ∨ s.inputs = .write width offset data :: rest)
    (hproblem : accessProblem width offset = some problem) : step s = problem.elim .fault .refused := by
  rw [step_eq_hostStep hturn, State.hostStep]
  obtain hin | hin := hin <;> cases problem <;> simp only [hin, hproblem, Sum.elim_inl, Sum.elim_inr]

/-- Settles O51: which of the two problems the access has, and that it stops the host's step. -/
theorem unsupportedAccessesStopTheHost : Obligations.UnsupportedAccessesStopTheHost :=
  fun _ _ _ _ _ hturn hin =>
    ⟨fun hwindow h => step_of_accessProblem hturn hin (accessProblem_of_unsupported hwindow h),
      fun h => step_of_accessProblem hturn hin (accessProblem_of_outside _ h)⟩

/-! ### A command depends on the core alone -/

/-- Two results are next states with one core. -/
def SameCore (r r' : Result) : Prop := ∃ t t', r = .next t ∧ r' = .next t' ∧ t.coreState = t'.coreState

namespace SameCore

theorem complete (h : s.coreState = s'.coreState) : SameCore s.complete s'.complete :=
  ⟨_, _, rfl, rfl, congrArg (·.endCommand .ok) h⟩

theorem completeNoop (h : s.coreState = s'.coreState) : SameCore s.completeNoop s'.completeNoop :=
  ⟨_, _, rfl, rfl, congrArg (·.endCommand .noop) h⟩

theorem failWith (e : CmdError) (h : s.coreState = s'.coreState) : SameCore (s.failWith e) (s'.failWith e) :=
  ⟨_, _, rfl, rfl, congrArg (·.endCommand (.fail e)) h⟩

/-- A check that both commands make with one answer. -/
theorem ite {c : Prop} [Decidable c] {r₁ r₁' r₂ r₂' : Result} (h₁ : SameCore r₁ r₁') (h₂ : SameCore r₂ r₂') :
    SameCore (if c then r₁ else r₂) (if c then r₁' else r₂') := by
  split <;> assumption

end SameCore

@[simp] theorem coreState_memRead (s : State) (a n : Nat) : s.coreState.memRead a n = s.memRead a n :=
  memRead_congr (s := s) (t := s.coreState) rfl rfl a n

@[simp] theorem coreState_mapIndex (s : State) (mp : Mapping) : s.coreState.mapIndex mp = s.mapIndex mp := by
  cases mp <;> rfl

@[simp] theorem coreState_mapOk (s : State) (mp : Mapping) (count : Nat) :
    s.coreState.mapOk mp count = s.mapOk mp count := by
  rw [State.mapOk, coreState_mapIndex]
  rfl

theorem applyVerdict_coreState (s : State) (a : Nat) (v : RsVerdict) :
    (s.applyVerdict a v).coreState = (s.coreState.applyVerdict a v).coreState := by
  cases v <;> rfl

/-- Every command ends, and it neither reads nor writes the model's own fields (R122, R250): the checks of its rule in
their order, each on the core alone. -/
theorem exec_sameCore (i : Instr) (s : State) : SameCore (exec i s) (exec i s.coreState) := by
  cases i with
  | nop => exact .complete rfl
  | bvcfg n => exact .ite (.complete rfl) (.failWith _ rfl)
  | bvsetbit v x => exact .ite (.failWith _ rfl) (.ite (.failWith _ rfl) (.complete rfl))
  | bvgetbit x => exact .ite (.failWith _ rfl) (.ite (.failWith _ rfl) (.complete rfl))
  | bvsetbits sel c =>
    simp only [exec, execBvsetbits, coreState_mapOk, coreState_mapIndex]
    cases selectorMapping sel with
    | none => exact .failWith _ rfl
    | some mp =>
      exact .ite (.failWith _ rfl) (.ite (.completeNoop rfl) (.ite (.failWith _ rfl) (.complete rfl)))
  | bvgetbits sel c =>
    simp only [exec, execBvgetbits, coreState_mapOk, coreState_mapIndex]
    cases selectorMapping sel with
    | none => exact .failWith _ rfl
    | some mp =>
      exact .ite (.failWith _ rfl) (.ite (.completeNoop rfl) (.ite (.failWith _ rfl) (.complete rfl)))
  | bvsetbytes c a =>
    simp only [exec, execBvsetbytes, coreState_memRead]
    exact .ite (.failWith _ rfl) (.ite (.completeNoop rfl) (.ite (.failWith _ rfl) (.complete rfl)))
  | bvgetbytes c a =>
    exact .ite (.failWith _ rfl) (.ite (.completeNoop rfl) (.ite (.failWith _ rfl) (.complete rfl)))
  | crc16 l a =>
    simp only [exec, execCrc16, coreState_memRead]
    exact .ite (.failWith _ rfl) (.complete rfl)
  | crc16w l d a =>
    simp only [exec, execCrc16w, coreState_memRead]
    exact .ite (.failWith _ rfl) (.complete rfl)
  | gfmul m a b => exact .ite (.failWith _ rfl) (.ite (.failWith _ rfl) (.complete rfl))
  | gfdiv m a b =>
    exact .ite (.failWith _ rfl) (.ite (.failWith _ rfl) (.ite (.failWith _ rfl) (.complete rfl)))
  | gfexp m e => exact .ite (.failWith _ rfl) (.complete rfl)
  | gflog m x =>
    exact .ite (.failWith _ rfl) (.ite (.failWith _ rfl) (.ite (.failWith _ rfl) (.complete rfl)))
  | rscfg m k r => exact .ite (.complete rfl) (.failWith _ rfl)
  | rsenc d a =>
    simp only [exec, execRsenc, coreState_memRead]
    exact .ite (.failWith _ rfl) (.ite (.failWith _ rfl) (.ite (.failWith _ rfl) (.complete rfl)))
  | rscor a =>
    simp only [exec, execRscor, coreState_memRead]
    exact .ite (.failWith _ rfl)
      (.ite (.failWith _ rfl) (.ite (.failWith _ rfl) (.complete (applyVerdict_coreState ..))))

theorem engineStep_sameCore (s : State) : SameCore (engineStep s) (engineStep s.coreState) := by
  have hcmdl : s.coreState.cmdl = s.cmdl := rfl
  simp only [engineStep, hcmdl]
  cases decode s.cmdl with
  | ok i => exact exec_sameCore i s
  | error _ => exact .failWith _ rfl

/-- The engine's step has a next state for every word in CMDL (R122). -/
theorem exists_engineStep_eq_next (s : State) : ∃ t, engineStep s = .next t := by
  obtain ⟨t, _, hstep, _⟩ := engineStep_sameCore s
  exact ⟨t, hstep⟩

/-- States with one core are taken by the engine's step to states with one core. -/
theorem engineStep_congr {u u' : State} (hstep : engineStep s = .next u) (hstep' : engineStep s' = .next u')
    (hcore : s'.coreState = s.coreState) : u'.coreState = u.coreState := by
  obtain ⟨v, c, hv, hc, hvc⟩ := engineStep_sameCore s
  obtain ⟨v', c', hv', hc', hvc'⟩ := engineStep_sameCore s'
  cases hstep.symm.trans hv
  cases hstep'.symm.trans hv'
  rw [hcore] at hc'
  cases hc.symm.trans hc'
  rw [hvc, hvc']

/-- The engine's step ends the command and leaves the host's list alone (R122). -/
theorem engineStep_ends (h : engineStep s = .next t) : t.busy = false ∧ t.done = true ∧ t.inputs = s.inputs := by
  obtain ⟨i, _, hexec⟩ | ⟨_, _, rfl⟩ := engineStep_cases h
  · have hend := exec_commandEnd hexec
    cases hend <;> simp
  · simp

/-! ### Finitely many steps -/

theorem run_succ_of_step (M : Host.Core) {s u : M.State} (hstep : M.step s = .next u) (k : Nat) :
    M.run (k + 1) s = M.run k u := by
  rw [Host.Core.run, hstep]

/-- Some number of steps leads from one state to another. -/
def Reaches (s t : State) : Prop := ∃ k, Host.Core.run Sys2Proof.core k s = .next t

namespace Reaches

theorem refl (s : State) : Reaches s s := ⟨0, rfl⟩

theorem head {u : State} (hstep : step s = .next u) (h : Reaches u t) : Reaches s t := by
  obtain ⟨k, hrun⟩ := h
  exact ⟨k + 1, (run_succ_of_step Sys2Proof.core hstep k).trans hrun⟩

end Reaches

/-! ### ISSUE and WAIT -/

/-- A WAIT whose STATUS read finds BUSY = 0 is over (R101). -/
theorem step_wait_of_idle {rest : List HostAction} (hidle : s.busy = false) (hin : s.inputs = .wait :: rest) :
    step s = .next (((s.setInputs rest).tick).hostRead .status) := by
  rw [step_eq_hostStep (engineTurn_eq_false_of_idle hidle), State.hostStep, hin]
  simp only [hidle, Bool.false_eq_true, if_false]

/-- A WAIT whose STATUS read finds BUSY = 1 stays pending (R101). -/
theorem step_wait_of_busy {rest : List HostAction} (hturn : s.engineTurn = false) (hbusy : s.busy = true)
    (hin : s.inputs = .wait :: rest) : step s = .next (s.tick.hostRead .status) := by
  rw [step_eq_hostStep hturn, State.hostStep, hin]
  simp only [hbusy, if_true]

/-- A STATUS read changes nothing but the word read (R67). -/
@[simp] theorem hostRead_status (s : State) : s.hostRead .status = s.setHostData s.statusWord := by
  simp [State.hostRead, Location.drawnWhileBusy, State.view]

@[simp] theorem setHostData_coreState (s : State) (data : Word) : (s.setHostData data).coreState = s.coreState := rfl

/-- WAIT ends with the command in flight performed (R101, R288), by induction on the accesses that come before the
engine's step. -/
theorem reaches_end_of_wait {rest : List HostAction} {e : State} (hbusy : s.busy = true)
    (hin : s.inputs = .wait :: rest) (hengine : engineStep s = .next e) :
    ∃ t, Reaches s t ∧ t.inputs = rest ∧ t.coreState = e.coreState := by
  induction hdelay : s.delay generalizing s e with
  | zero =>
    have hturn : s.engineTurn = true := engineTurn_iff.2 ⟨hbusy, .inr hdelay⟩
    have hstep : step s = .next e := by rw [step, if_pos hturn, hengine]
    obtain ⟨hidle, -, hlist⟩ := engineStep_ends hengine
    exact ⟨_, .head hstep (.head (step_wait_of_idle hidle (hlist.trans hin)) (.refl _)), by simp, by simp⟩
  | succ n ih =>
    have hturn : s.engineTurn = false := by simp [State.engineTurn, hin, hdelay]
    obtain ⟨e', hengine'⟩ := exists_engineStep_eq_next (s.tick.hostRead .status)
    have hsame := engineStep_congr hengine hengine' (by simp)
    obtain ⟨t, hreach, hrest, hcore⟩ := ih (by simpa using hbusy) (by simpa using hin) hengine' (by simp [hdelay])
    exact ⟨t, .head (step_wait_of_busy hturn hbusy hin) hreach, hrest, hcore.trans hsame⟩

theorem issue_eq (w : Word) (h : engineStep (s.acceptCommand w) = .next t) : s.issue w = t := by
  rw [State.issue, h]

/-- Settles O58: the CMD write is accepted, and the WAIT that follows ends with the command performed. -/
theorem issueAndWaitComplete : Obligations.IssueAndWaitComplete := by
  intro s w rest hidle hin
  have haccept : step s = .next (((s.setInputs (.wait :: rest)).tick).acceptCommand w) :=
    step_eq_writeLocation hidle hin (by decide) (by decide)
  obtain ⟨e, hengine⟩ := exists_engineStep_eq_next (((s.setInputs (.wait :: rest)).tick).acceptCommand w)
  obtain ⟨e', hissue⟩ := exists_engineStep_eq_next (s.acceptCommand w)
  obtain ⟨t, hreach, hrest, hcore⟩ := reaches_end_of_wait (rest := rest) (by simp) (by simp) hengine
  have hsame : t.coreState = e'.coreState := hcore.trans (engineStep_congr hissue hengine rfl)
  obtain ⟨hbusy, hdone, -⟩ := engineStep_ends hissue
  obtain ⟨k, hrun⟩ := Reaches.head haccept hreach
  exact ⟨k, t, hrun, (congrArg State.busy hsame).trans hbusy, (congrArg State.done hsame).trans hdone, hrest,
    by rw [issue_eq w hissue, hsame]⟩

end Sys2Proof.Machine

/-! The statements of spec/30_encoding.md: the decoder inverts the encoder, the masks of the opcode table, the words
that name no command, and the selectors. -/

namespace Sys2Proof

/-! ### The fields of a word -/

section
variable (opc : BitVec 5) (sel : BitVec 3) (f2 f1 f0 : Byte)

@[simp] theorem opcOf_mkWord : opcOf (mkWord opc sel f2 f1 f0) = opc :=
  calc opcOf (mkWord opc sel f2 f1 f0)
      = (opc ++ sel ++ f2 ++ f1).extractLsb' 19 5 := BitVec.extractLsb'_append_eq_of_le (by decide)
    _ = (opc ++ sel ++ f2).extractLsb' 11 5 := BitVec.extractLsb'_append_eq_of_le (by decide)
    _ = (opc ++ sel).extractLsb' 3 5 := BitVec.extractLsb'_append_eq_of_le (by decide)
    _ = opc := BitVec.extractLsb'_append_eq_left

@[simp] theorem selOf_mkWord : selOf (mkWord opc sel f2 f1 f0) = sel :=
  calc selOf (mkWord opc sel f2 f1 f0)
      = (opc ++ sel ++ f2 ++ f1).extractLsb' 16 3 := BitVec.extractLsb'_append_eq_of_le (by decide)
    _ = (opc ++ sel ++ f2).extractLsb' 8 3 := BitVec.extractLsb'_append_eq_of_le (by decide)
    _ = (opc ++ sel).extractLsb' 0 3 := BitVec.extractLsb'_append_eq_of_le (by decide)
    _ = sel := BitVec.extractLsb'_append_eq_right

@[simp] theorem f2Of_mkWord : f2Of (mkWord opc sel f2 f1 f0) = f2 :=
  calc f2Of (mkWord opc sel f2 f1 f0)
      = (opc ++ sel ++ f2 ++ f1).extractLsb' 8 8 := BitVec.extractLsb'_append_eq_of_le (by decide)
    _ = (opc ++ sel ++ f2).extractLsb' 0 8 := BitVec.extractLsb'_append_eq_of_le (by decide)
    _ = f2 := BitVec.extractLsb'_append_eq_right

@[simp] theorem f1Of_mkWord : f1Of (mkWord opc sel f2 f1 f0) = f1 :=
  calc f1Of (mkWord opc sel f2 f1 f0)
      = (opc ++ sel ++ f2 ++ f1).extractLsb' 0 8 := BitVec.extractLsb'_append_eq_of_le (by decide)
    _ = f1 := BitVec.extractLsb'_append_eq_right

@[simp] theorem f0Of_mkWord : f0Of (mkWord opc sel f2 f1 f0) = f0 :=
  BitVec.extractLsb'_append_eq_right

end

/-- The five fields cover the word (R90). -/
theorem mkWord_fields (w : Word) : mkWord (opcOf w) (selOf w) (f2Of w) (f1Of w) (f0Of w) = w := by
  have hopc : opcOf w ++ selOf w = w.extractLsb' 24 8 := BitVec.extractLsb'_append_extractLsb'_eq_extractLsb' rfl
  have hf2 : w.extractLsb' 24 8 ++ f2Of w = w.extractLsb' 16 16 :=
    BitVec.extractLsb'_append_extractLsb'_eq_extractLsb' rfl
  have hf1 : w.extractLsb' 16 16 ++ f1Of w = w.extractLsb' 8 24 :=
    BitVec.extractLsb'_append_extractLsb'_eq_extractLsb' rfl
  calc mkWord (opcOf w) (selOf w) (f2Of w) (f1Of w) (f0Of w)
      = w.extractLsb' 8 24 ++ f0Of w := by rw [mkWord, hopc, hf2, hf1]
    _ = w.extractLsb' 0 32 := BitVec.extractLsb'_append_extractLsb'_eq_extractLsb' rfl
    _ = w := BitVec.extractLsb'_eq_self

/-- A word is its five fields, so that words are compared field by field (R90). -/
theorem word_eq_iff (w x : Word) :
    w = x ↔ opcOf w = opcOf x ∧ selOf w = selOf x ∧ f2Of w = f2Of x ∧ f1Of w = f1Of x ∧ f0Of w = f0Of x := by
  constructor
  · rintro rfl
    exact ⟨rfl, rfl, rfl, rfl, rfl⟩
  · rintro ⟨hopc, hsel, hf2, hf1, hf0⟩
    rw [← mkWord_fields w, hopc, hsel, hf2, hf1, hf0, mkWord_fields]

/-- The test of a row, `word & mask == match`, field by field (R94). -/
theorem and_eq_iff (w mask x : Word) :
    w &&& mask = x ↔ opcOf w &&& opcOf mask = opcOf x ∧ selOf w &&& selOf mask = selOf x ∧
      f2Of w &&& f2Of mask = f2Of x ∧ f1Of w &&& f1Of mask = f1Of x ∧ f0Of w &&& f0Of mask = f0Of x := by
  simp only [word_eq_iff, opcOf, selOf, f2Of, f1Of, f0Of, BitVec.extractLsb'_and]

/-! ### Operands in part of a field -/

@[simp] theorem decodeSelector_encodeSelector (sel : Selector) : decodeSelector (encodeSelector sel) = sel := by
  cases sel <;> rfl

@[simp] theorem encodeSelector_decodeSelector (sel : BitVec 3) : encodeSelector (decodeSelector sel) = sel := by
  revert sel
  decide

/-- The field size of a GF command is the low half of F2 (R93). -/
@[simp] theorem extractLsb'_gfSize (m : BitVec 4) : (m.setWidth 8).extractLsb' 0 4 = m := by
  revert m
  decide

/-- F2 is the field size of a GF command when its high half is zero (R96). -/
theorem setWidth_gfSize (f2 : Byte) (hzero : f2.extractLsb' 4 4 = 0#4) : (f2.extractLsb' 0 4).setWidth 8 = f2 := by
  revert f2
  decide

/-- The high half of F2 as the mask of a GF command sees it (R96). -/
theorem and_0xF0_eq_zero_iff (f2 : Byte) : f2 &&& 0xF0#8 = 0#8 ↔ f2.extractLsb' 4 4 = 0#4 := by
  revert f2
  decide

/-- The value of BVSETBIT is bit 0 of F1 (R93). -/
@[simp] theorem getElem_bitValue (v : Bool) : (if v then 1#8 else 0#8)[0] = v := by
  cases v <;> rfl

/-- F1 is the value of BVSETBIT when its other bits are zero (R96). -/
theorem bitValue_getElem (f1 : Byte) (hzero : f1.extractLsb' 1 7 = 0#7) :
    (if f1[0] then 1#8 else 0#8) = f1 := by
  revert f1
  decide

/-- The upper bits of F1 as the mask of BVSETBIT sees them (R96). -/
theorem and_0xFE_eq_zero_iff (f1 : Byte) : f1 &&& 0xFE#8 = 0#8 ↔ f1.extractLsb' 1 7 = 0#7 := by
  revert f1
  decide

/-! ### The rows of the opcode table -/

/-- The fields that must be zero in a word of the row of a command are zero (R93, R96). -/
def Instr.fieldsClear : Instr → Word → Bool
  | .nop, w => selOf w == 0 && f2Of w == 0 && f1Of w == 0 && f0Of w == 0
  | .bvcfg _, w => selOf w == 0 && f1Of w == 0 && f0Of w == 0
  | .bvsetbit _ _, w => selOf w == 0 && f2Of w == 0 && (f1Of w).extractLsb' 1 7 == 0
  | .bvgetbit _, w => selOf w == 0 && f2Of w == 0 && f1Of w == 0
  | .bvsetbits _ _, w => f1Of w == 0 && f0Of w == 0
  | .bvgetbits _ _, w => f1Of w == 0 && f0Of w == 0
  | .bvsetbytes _ _, w => selOf w == 0 && f1Of w == 0
  | .bvgetbytes _ _, w => selOf w == 0 && f0Of w == 0
  | .crc16 _ _, w => selOf w == 0 && f1Of w == 0
  | .crc16w _ _ _, w => selOf w == 0
  | .gfmul _ _ _, w => selOf w == 0 && (f2Of w).extractLsb' 4 4 == 0
  | .gfdiv _ _ _, w => selOf w == 0 && (f2Of w).extractLsb' 4 4 == 0
  | .gfexp _ _, w => selOf w == 0 && (f2Of w).extractLsb' 4 4 == 0 && f0Of w == 0
  | .gflog _ _, w => selOf w == 0 && (f2Of w).extractLsb' 4 4 == 0 && f1Of w == 0
  | .rscfg _ _ _, w => selOf w == 0
  | .rsenc _ _, w => selOf w == 0 && f2Of w == 0
  | .rscor _, w => selOf w == 0 && f2Of w == 0 && f1Of w == 0

/-- The command of the same row whose operands are those of a word (R93). -/
def Instr.withOperandsOf : Instr → Word → Instr
  | .nop, _ => .nop
  | .bvcfg _, w => .bvcfg (f2Of w)
  | .bvsetbit _ _, w => .bvsetbit ((f1Of w).getLsbD 0) (f0Of w)
  | .bvgetbit _, w => .bvgetbit (f0Of w)
  | .bvsetbits _ _, w => .bvsetbits (decodeSelector (selOf w)) (f2Of w)
  | .bvgetbits _ _, w => .bvgetbits (decodeSelector (selOf w)) (f2Of w)
  | .bvsetbytes _ _, w => .bvsetbytes (f2Of w) (f0Of w)
  | .bvgetbytes _ _, w => .bvgetbytes (f2Of w) (f1Of w)
  | .crc16 _ _, w => .crc16 (f2Of w) (f0Of w)
  | .crc16w _ _ _, w => .crc16w (f2Of w) (f1Of w) (f0Of w)
  | .gfmul _ _ _, w => .gfmul ((f2Of w).extractLsb' 0 4) (f1Of w) (f0Of w)
  | .gfdiv _ _ _, w => .gfdiv ((f2Of w).extractLsb' 0 4) (f1Of w) (f0Of w)
  | .gfexp _ _, w => .gfexp ((f2Of w).extractLsb' 0 4) (f1Of w)
  | .gflog _ _, w => .gflog ((f2Of w).extractLsb' 0 4) (f0Of w)
  | .rscfg _ _ _, w => .rscfg (f2Of w) (f1Of w) (f0Of w)
  | .rsenc _ _, w => .rsenc (f1Of w) (f0Of w)
  | .rscor _, w => .rscor (f0Of w)

/-- The decoder's branch for the opcode of a command: the zero test of its row, then the operands of the word (R93). -/
theorem decode_of_opcode (j : Instr) {w : Word} (hopc : opcOf w = opcOf (encode j)) :
    decode w = fieldsZero w (j.fieldsClear w) (j.withOperandsOf w) := by
  cases j
  all_goals
    simp only [encode, opcOf_mkWord] at hopc
    rw [decode, hopc]
    rfl

@[simp] theorem withOperandsOf_row (j : Instr) (w : Word) : (j.withOperandsOf w).row = j.row := by
  cases j <;> rfl

/-- The operands of a command are found again in its own word (R93). -/
@[simp] theorem withOperandsOf_encode (i : Instr) : i.withOperandsOf (encode i) = i := by
  cases i <;> simp [Instr.withOperandsOf, encode]

/-- A word is that of its row's command with the operands read from it (R93). -/
theorem encode_withOperandsOf (j : Instr) {w : Word} (hopc : opcOf w = opcOf (encode j))
    (hclear : j.fieldsClear w = true) : encode (j.withOperandsOf w) = w := by
  rw [word_eq_iff]
  cases j <;> simp_all [Instr.fieldsClear, Instr.withOperandsOf, encode, bitValue_getElem, setWidth_gfSize]

/-- The opcode of a command under the mask of its row (R94). -/
theorem and_opcMask (opc : BitVec 5) : opc &&& 0x1F#5 = opc := BitVec.and_allOnes

/-- The SEL field under a mask that holds it to zero (R94). -/
theorem and_selMask (sel : BitVec 3) : sel &&& 7#3 = sel := BitVec.and_allOnes

/-- A byte field under a mask that holds it to zero (R94). -/
theorem and_byteMask (f : Byte) : f &&& 0xFF#8 = f := BitVec.and_allOnes

/-- The mask of a row tests the opcode and the fields that must be zero, and nothing else (R94). -/
theorem and_row_iff (j : Instr) (w : Word) :
    w &&& j.row.1 = j.row.2 ↔ opcOf w = opcOf (encode j) ∧ j.fieldsClear w = true := by
  rw [and_eq_iff]
  cases j
  all_goals
    simp only [encode, opcOf_mkWord, Instr.row, Instr.fieldsClear]
    simp [opcOf, selOf, f2Of, f1Of, f0Of, and_opcMask, and_selMask, and_byteMask, and_0xF0_eq_zero_iff,
      and_0xFE_eq_zero_iff, and_assoc]

/-- The word of a command carries the fixed bits of its row (R94). -/
theorem encode_and_mask : ∀ i : Instr, encode i &&& i.row.1 = i.row.2
  | .nop => Laws.FixedBits.nop
  | .bvcfg nbits => Laws.FixedBits.bvcfg nbits
  | .bvsetbit v index => Laws.FixedBits.bvsetbit v index
  | .bvgetbit index => Laws.FixedBits.bvgetbit index
  | .bvsetbits sel count => Laws.FixedBits.bvsetbits sel count
  | .bvgetbits sel count => Laws.FixedBits.bvgetbits sel count
  | .bvsetbytes count src => Laws.FixedBits.bvsetbytes count src
  | .bvgetbytes count dst => Laws.FixedBits.bvgetbytes count dst
  | .crc16 len src => Laws.FixedBits.crc16 len src
  | .crc16w len dst src => Laws.FixedBits.crc16w len dst src
  | .gfmul m a b => Laws.FixedBits.gfmul m a b
  | .gfdiv m a b => Laws.FixedBits.gfdiv m a b
  | .gfexp m e => Laws.FixedBits.gfexp m e
  | .gflog m x => Laws.FixedBits.gflog m x
  | .rscfg m k r => Laws.FixedBits.rscfg m k r
  | .rsenc dst src => Laws.FixedBits.rsenc dst src
  | .rscor addr => Laws.FixedBits.rscor addr

/-! ### The decoder, row by row -/

/-- A word under whose mask a row's match stands names the command of that row with the word's operands (R94). -/
theorem decode_of_row_match {j : Instr} {w : Word} (hrow : w &&& j.row.1 = j.row.2) :
    decode w = .ok (j.withOperandsOf w) := by
  obtain ⟨hopc, hclear⟩ := (and_row_iff j w).1 hrow
  rw [decode_of_opcode j hopc, fieldsZero, if_pos hclear]

/-- A word with a row's opcode names no command when its must-be-zero fields are not zero (R96). -/
theorem decode_of_row_mismatch {j : Instr} {w : Word} (hopc : opcOf w = opcOf (encode j))
    (hrow : w &&& j.row.1 ≠ j.row.2) : decode w = .error (.reservedField (opcOf w)) := by
  have hclear : ¬ j.fieldsClear w = true := fun hclear => hrow ((and_row_iff j w).2 ⟨hopc, hclear⟩)
  rw [decode_of_opcode j hopc, fieldsZero, if_neg hclear]

/-- A word with an opcode of R95 names no command. -/
theorem decode_of_reserved_opcode {w : Word}
    (hopc : opcOf w = 0x0A#5 ∨ opcOf w = 0x0B#5 ∨ 0x13 ≤ (opcOf w).toNat) :
    decode w = .error (.reservedOpcode (opcOf w)) := by
  obtain hopc | hopc | hopc := hopc
  · rw [decode, hopc]
    rfl
  · rw [decode, hopc]
    rfl
  · rw [decode]
    split
    case h_18 => rfl
    all_goals omega

/-- One command for each row of the opcode table (R93). -/
def tableRows : List Instr :=
  [.nop, .bvcfg 0, .bvsetbit false 0, .bvgetbit 0, .bvsetbits .ident 0, .bvgetbits .ident 0, .bvsetbytes 0 0,
    .bvgetbytes 0 0, .crc16 0 0, .crc16w 0 0 0, .gfmul 0 0 0, .gfdiv 0 0 0, .gfexp 0 0, .gflog 0 0, .rscfg 0 0 0,
    .rsenc 0 0, .rscor 0]

/-- Every opcode is that of a row of the table or reserved (R93, R95). -/
theorem opcode_cases (opc : BitVec 5) :
    (∃ j ∈ tableRows, opc = opcOf (encode j)) ∨ opc = 0x0A#5 ∨ opc = 0x0B#5 ∨ 0x13 ≤ opc.toNat := by
  revert opc
  decide

/-- A word that names a command has the fixed bits of a row, and names the command read from it (R94). -/
theorem row_match_of_decode {w : Word} {i : Instr} (hdec : decode w = .ok i) :
    ∃ j : Instr, w &&& j.row.1 = j.row.2 ∧ i = j.withOperandsOf w := by
  obtain ⟨j, -, hopc⟩ | hreserved := opcode_cases (opcOf w)
  · by_cases hrow : w &&& j.row.1 = j.row.2
    · exact ⟨j, hrow, by simpa [hdec] using decode_of_row_match hrow⟩
    · simp [decode_of_row_mismatch hopc hrow] at hdec
  · simp [decode_of_reserved_opcode hreserved] at hdec

/-! ### Decoding and encoding -/

/-- Settles O1: the word of `i` matches the row of `i`, and the operands read from it are those of `i`. -/
theorem everyCommandDecodesFromItsWord : Obligations.EveryCommandDecodesFromItsWord := by
  intro i
  rw [decode_of_row_match (encode_and_mask i), withOperandsOf_encode]

/-- Settles O2: `i` has the operands read from `w`, and the row's fixed bits are the rest of `w`. -/
theorem everyDecodedWordIsItsEncoding : Obligations.EveryDecodedWordIsItsEncoding := by
  intro w i hdec
  obtain ⟨j, hrow, rfl⟩ := row_match_of_decode hdec
  obtain ⟨hopc, hclear⟩ := (and_row_iff j w).1 hrow
  exact encode_withOperandsOf j hopc hclear

/-- The decoder and the encoder are inverse to each other (R93, R94). -/
theorem decode_eq_ok_iff (w : Word) (i : Instr) : decode w = .ok i ↔ encode i = w := by
  constructor
  · exact everyDecodedWordIsItsEncoding w i
  · rintro rfl
    exact everyCommandDecodesFromItsWord i

/-- Settles O3: a word that matches a row is read by that row, and a word that decodes carries its row's fixed bits. -/
theorem wordNamesRowIffMaskMatches : Obligations.WordNamesRowIffMaskMatches := by
  intro w j
  constructor
  · intro hrow
    exact ⟨j.withOperandsOf w, decode_of_row_match hrow, withOperandsOf_row j w⟩
  · rintro ⟨i, hdec, hij⟩
    rw [← hij, ← (decode_eq_ok_iff w i).1 hdec]
    exact encode_and_mask i

/-- Settles O7: the decoder inverts the encoder, so each clause is a fact about the words of commands. -/
theorem specWordsDecodeToTheirCommands : Obligations.SpecWordsDecodeToTheirCommands := by
  have hnone : decode 0xFFFFFFFF#32 = .error (.reservedOpcode 0x1F) := decode_of_reserved_opcode (by decide)
  refine ⟨fun w => ?_, fun i => by simp [hnone], ?_⟩
  · rw [decode_eq_ok_iff, eq_comm]
    rfl
  · simp only [decode_eq_ok_iff]
    decide

namespace Machine

/-! ### Words and selectors that fail with ILLEGAL -/

variable {s : State}

/-- On the engine's turn a word that names no command fails with ILLEGAL (R94, R122). -/
theorem step_of_decode_error {e : DecodeError} (hturn : s.engineTurn = true) (hdec : decode s.cmdl = .error e) :
    step s = .next (s.failed .illegal) := by
  rw [step, if_pos hturn, engineStep, hdec]
  rfl

/-- Settles O4: a reserved opcode names no command. -/
theorem reservedOpcodeFailsIllegal : Obligations.ReservedOpcodeFailsIllegal :=
  fun _ hturn hopc => step_of_decode_error hturn (decode_of_reserved_opcode hopc)

/-- Settles O5: a word with a row's opcode that misses the row's match names no command. -/
theorem nonzeroReservedFieldFailsIllegal : Obligations.NonzeroReservedFieldFailsIllegal :=
  fun _ _ hturn hopc hrow => step_of_decode_error hturn (decode_of_row_mismatch hopc hrow)

/-- The reserved selectors name no mapping (R97). -/
theorem selectorMapping_of_isReserved {sel : Selector} (hsel : sel.isReserved = true) :
    selectorMapping sel = none := by
  cases sel with
  | reserved6 => rfl
  | reserved7 => rfl
  | _ => exact absurd hsel (by decide)

/-- Settles O6: the bulk commands ask for the mapping first, and a reserved selector has none. -/
theorem reservedSelectorFailsIllegal : Obligations.ReservedSelectorFailsIllegal := by
  refine ⟨by decide, fun s sel count hsel => ?_⟩
  have hmap := selectorMapping_of_isReserved hsel
  constructor
  · rw [exec, execBvsetbits, hmap]
    rfl
  · rw [exec, execBvgetbits, hmap]
    rfl

/-- Settles O13: the table is the definition of the mapping, and every mapped index fits in 6 bits. -/
theorem selectorsMapAsTabled : Obligations.SelectorsMapAsTabled :=
  fun s i hi => ⟨rfl, rfl, rfl, rfl, rfl, rfl, rfl, fun mp => mapIndex_lt s mp i hi⟩

end Machine

end Sys2Proof

/-! The statements of spec/40_system.md: the CMD write, the writes to a busy core, NOP, and the end of every command. -/

namespace Sys2Proof.Machine

variable {s t : State} {i : Instr}

/-! ### The end of a command -/

/-- The normal end of a command is the outcome `ok` of R250. -/
theorem endCommand_ok_eq_completed (s : State) : s.endCommand .ok = s.completed := rfl

/-- Settles O9: the meaning of NOP is the normal end of a command. -/
theorem nopCompletesWithNoEffect : Obligations.NopCompletesWithNoEffect := by
  intro s
  rw [exec, execNop, State.complete, endCommand_ok_eq_completed]

/-- However a command ends, STATUS shows one row of the table of R250. -/
theorem endCommand_outcome (s : State) (o : CmdOutcome) :
    ((s.endCommand o).err = false ∧ (s.endCommand o).noop = false ∧ (s.endCommand o).errcode = none) ∨
    ((s.endCommand o).err = false ∧ (s.endCommand o).noop = true ∧ (s.endCommand o).errcode = none) ∨
    ((s.endCommand o).err = true ∧ (s.endCommand o).noop = false ∧ (s.endCommand o).errcode ≠ none) := by
  cases o with
  | ok => exact .inl ⟨rfl, rfl, rfl⟩
  | noop => exact .inr (.inl ⟨rfl, rfl, rfl⟩)
  | fail e => exact .inr (.inr ⟨rfl, rfl, Option.some_ne_none e⟩)

/-- Whatever a command writes, the last thing it does is to end (R122). -/
theorem CommandEnd.exists_endCommand (h : CommandEnd s i t) : ∃ (u : State) (o : CmdOutcome), t = u.endCommand o := by
  cases h <;> exact ⟨_, _, rfl⟩

theorem engineStep_exists_endCommand (h : engineStep s = .next t) :
    ∃ (u : State) (o : CmdOutcome), t = u.endCommand o := by
  obtain ⟨i, _, hexec⟩ | ⟨_, _, rfl⟩ := engineStep_cases h
  · exact (exec_commandEnd hexec).exists_endCommand
  · exact ⟨_, _, rfl⟩

/-- Settles O41: the engine's step has a next state, and it is the end of a command with some outcome. -/
theorem everyCommandEndsWithOneOutcome : Obligations.EveryCommandEndsWithOneOutcome := by
  intro s hturn
  obtain ⟨t, hengine⟩ := exists_engineStep_eq_next s
  obtain ⟨u, o, rfl⟩ := engineStep_exists_endCommand hengine
  have hstep : step s = .next (u.endCommand o) := by rw [step, if_pos hturn, hengine]
  exact ⟨_, hstep, State.endCommand_busy u o, State.endCommand_done u o, endCommand_outcome u o⟩

/-! ### The CMD write -/

/-- A CMD write to an idle core is accepted (R120). -/
theorem step_eq_acceptCommand {w : Word} {rest : List HostAction} (hidle : s.busy = false)
    (hin : s.inputs = .write .word 0x00C#32 w :: rest) :
    step s = .next (((s.setInputs rest).tick).acceptCommand w) :=
  step_eq_writeLocation hidle hin (by decide) (by decide)

/-- Settles O45: what acceptance leaves is the state of the statement, field by field. -/
theorem cmdWriteWhileIdleIsAccepted : Obligations.CmdWriteWhileIdleIsAccepted :=
  fun _ _ _ hidle hin => ⟨_, step_eq_acceptCommand hidle hin, rfl⟩

/-! ### Writes to a busy core, and ignored writes -/

/-- The operand words of the window: CMD, ARG0, ARG1, DBUF and MAPRAM (R22, R286). -/
theorem isOperand_locate {offset : Nat}
    (h : offset ∈ [0x00C, 0x010, 0x014] ∨ (0x100 ≤ offset ∧ offset < 0x240)) : (locate offset).isOperand = true := by
  obtain hreg | ⟨hlo, hhi⟩ := h
  · have hregisters : ∀ o ∈ [0x00C, 0x010, 0x014], (locate o).isOperand = true := by decide
    exact hregisters offset hreg
  · obtain hlow | ⟨a, ha, rfl⟩ | ⟨x, hx, rfl⟩ | hhigh := offset_cases offset
    · omega
    · rw [locate_dbuf ha, Location.isOperand]
    · rw [locate_mapram hx, Location.isOperand]
    · omega

/-- While BUSY = 1 a write to an operand location is dropped with OVR (R121, R286). -/
theorem hostWrite_of_busy {loc : Location} (hbusy : s.busy = true) (hoperand : loc.isOperand = true) (data : Word) :
    s.hostWrite loc data = s.dropWrite := by
  rw [State.hostWrite, hbusy, hoperand, Bool.and_self, if_pos rfl]

/-- A STATUS write is dropped in no state (R25, R286). -/
@[simp] theorem hostWrite_status (s : State) (data : Word) : s.hostWrite .status data = s.writeStatus data := by
  simp [State.hostWrite, Location.isOperand, State.writeLocation]

/-- The locations that ignore a host write: the read-only registers and the reserved words (R286). -/
def readOnlyLocations : List Location := [.id, .res0, .res1, .rscfgr, .bvcfgr, .bvd0, .bvd1, .reserved]

theorem locate_mem_readOnlyLocations {offset : Nat} (haligned : offset % 4 = 0)
    (h : offset = 0x000 ∨ (0x018 ≤ offset ∧ offset < 0x100) ∨ 0x240 ≤ offset) :
    locate offset ∈ readOnlyLocations := by
  obtain rfl | ⟨hlo, hhi⟩ | hhigh := h
  · decide
  · by_cases hreg : offset < 0x030
    · have hregisters : ∀ o < 0x030, o % 4 = 0 → 0x018 ≤ o → locate o ∈ readOnlyLocations := by decide
      exact hregisters offset hreg haligned hlo
    · rw [locate_of_reserved_low (by omega) hhi]
      decide
  · rw [locate_of_ge hhigh]
    decide

/-- A write to a read-only or reserved location changes nothing and does not set OVR, busy or not (R286). -/
theorem hostWrite_of_readOnly {loc : Location} (hloc : loc ∈ readOnlyLocations) (s : State) (data : Word) :
    s.hostWrite loc data = s := by
  have hoperand : loc.isOperand = false := by
    revert hloc
    cases loc <;> simp [readOnlyLocations, Location.isOperand]
  have hignored : s.writeLocation loc data = s := by
    revert hloc
    cases loc <;> simp [readOnlyLocations, State.writeLocation]
  rw [State.hostWrite, hoperand, Bool.and_false, if_neg Bool.false_ne_true, hignored]

@[simp] theorem softReset_busy (s : State) (ie : Bool) : (s.softReset ie).busy = false := by
  unfold State.softReset
  split <;> rfl

@[simp] theorem softReset_ie (s : State) (ie : Bool) : (s.softReset ie).ie = ie := rfl

/-- Settles O47: the host's write, and what it does at a location of each kind. -/
theorem writesWhileBusyAreDropped : Obligations.WritesWhileBusyAreDropped := by
  intro s offset data rest hturn hin haligned hwindow
  have hstep := step_eq_hostWrite hturn hin hwindow haligned
  refine ⟨fun hbusy hoffset => ?operand, ?ctrl, ?srst, ?status, fun hoffset => ?ignored⟩
  case operand =>
    rw [hostWrite_of_busy (s := (s.setInputs rest).tick) hbusy (isOperand_locate hoffset)] at hstep
    exact ⟨_, hstep, rfl⟩
  case ctrl =>
    rintro - rfl hsrst
    refine ⟨_, step_eq_writeCtrl hturn hin, ?_⟩
    rw [writeCtrl_of_not_srst hsrst]
    rfl
  case srst =>
    rintro - rfl hsrst
    refine ⟨_, step_eq_writeCtrl hturn hin, ?_⟩
    rw [writeCtrl_of_srst hsrst]
    exact ⟨softReset_busy .., softReset_done .., softReset_ie ..⟩
  case status =>
    rintro - rfl
    rw [show locate (0x008#32).toNat = .status from rfl, hostWrite_status] at hstep
    exact ⟨_, hstep, rfl⟩
  case ignored =>
    have hloc := locate_mem_readOnlyLocations haligned (hoffset.imp_left (congrArg BitVec.toNat))
    rw [hostWrite_of_readOnly hloc] at hstep
    exact ⟨_, hstep, rfl⟩

end Sys2Proof.Machine

/-! The statements of spec/41_bitvector.md: the configuration of the vector, its single bits, and the bulk commands
over bits and bytes. -/

namespace Sys2Proof.Machine

variable {s : State}

/-! ### The checks the commands share -/

/-- The checks of a single-bit command before its effect `u` (R136, R137). -/
def bitChecked (s : State) (index : Nat) (u : State) : Result :=
  if !s.bvValid then s.failWith .nocfg
  else if s.bvBits ≤ index then s.failWith .range
  else u.complete

/-- The checks of a bulk command before its effect `u` (R138 to R141). -/
def bulkChecked (s : State) (capacity count : Nat) (fits : Bool) (u : State) : Result :=
  if !s.bvValid then s.failWith .nocfg
  else if capacity < count then s.completeNoop
  else if !fits then s.failWith .range
  else u.complete

theorem exec_bvsetbit (s : State) (v : Bool) (index : Byte) :
    exec (.bvsetbit v index) s = bitChecked s index.toNat (s.setBv (setBit s.bv index.toNat v)) := rfl

theorem exec_bvgetbit (s : State) (index : Byte) :
    exec (.bvgetbit index) s =
      bitChecked s index.toNat (s.setResult ((flagBit (s.bv.getLsbD index.toNat)).setWidth 32) 0#32) := rfl

theorem exec_bvsetbits {sel : Selector} {mp : Mapping} (hsel : selectorMapping sel = some mp) (s : State)
    (count : Byte) :
    exec (.bvsetbits sel count) s = bulkChecked s s.bvBits count.toNat (s.mapOk mp count.toNat)
      (s.setBv (scatterBits (s.mapIndex mp) s.vin count.toNat)) := by
  rw [exec, execBvsetbits, hsel]
  rfl

theorem exec_bvgetbits {sel : Selector} {mp : Mapping} (hsel : selectorMapping sel = some mp) (s : State)
    (count : Byte) :
    exec (.bvgetbits sel count) s = bulkChecked s s.bvBits count.toNat (s.mapOk mp count.toNat)
      (s.setVout (gatherBits (s.mapIndex mp) s.bv count.toNat)) := by
  rw [exec, execBvgetbits, hsel]
  rfl

theorem exec_bvsetbytes (s : State) (count src : Byte) :
    exec (.bvsetbytes count src) s = bulkChecked s s.bvBytes count.toNat (rangeOk src count.toNat)
      (s.setBv (packBytes (s.memRead src.toNat count.toNat))) := rfl

theorem exec_bvgetbytes (s : State) (count dst : Byte) :
    exec (.bvgetbytes count dst) s = bulkChecked s s.bvBytes count.toNat (rangeOk dst count.toNat)
      (s.memWrite dst.toNat ((List.range count.toNat).map s.bvByte)) := rfl

section
variable {index capacity count : Nat} {fits : Bool} {u : State}

theorem bitChecked_of_invalid (hvalid : s.bvValid = false) : bitChecked s index u = .next (s.failed .nocfg) := by
  rw [bitChecked, hvalid]
  rfl

theorem bitChecked_of_ge (hvalid : s.bvValid = true) (hindex : s.bvBits ≤ index) :
    bitChecked s index u = .next (s.failed .range) := by
  rw [bitChecked, hvalid, if_pos hindex]
  rfl

theorem bitChecked_of_lt (hvalid : s.bvValid = true) (hindex : index < s.bvBits) :
    bitChecked s index u = .next u.completed := by
  rw [bitChecked, hvalid, if_neg (Nat.not_le.2 hindex)]
  rfl

theorem bulkChecked_of_invalid (hvalid : s.bvValid = false) :
    bulkChecked s capacity count fits u = .next (s.failed .nocfg) := by
  rw [bulkChecked, hvalid]
  rfl

theorem bulkChecked_of_misfit (hvalid : s.bvValid = true) (hcount : count ≤ capacity) (hfits : fits = false) :
    bulkChecked s capacity count fits u = .next (s.failed .range) := by
  rw [bulkChecked, hvalid, if_neg (Nat.not_lt.2 hcount), hfits]
  rfl

theorem bulkChecked_of_fits (hvalid : s.bvValid = true) (hcount : count ≤ capacity) (hfits : fits = true) :
    bulkChecked s capacity count fits u = .next u.completed := by
  rw [bulkChecked, hvalid, if_neg (Nat.not_lt.2 hcount), hfits]
  rfl

end

theorem rangeOk_eq_false_iff (a : Byte) (n : Nat) : rangeOk a n = false ↔ 256 < a.toNat + n := by
  rw [← Bool.not_eq_true, rangeOk_iff, Nat.not_le]

/-- The mapping does not fit the vector when one of its entries does not. -/
theorem mapOk_eq_false_of_exists {mp : Mapping} {count : Nat} (h : ∃ i, i < count ∧ s.bvBits ≤ s.mapIndex mp i) :
    s.mapOk mp count = false := by
  obtain ⟨i, hi, hmap⟩ := h
  rw [← Bool.not_eq_true, mapOk_iff]
  exact fun hall => Nat.not_lt.2 hmap (hall i hi)

/-- A count of bytes fits the vector when its bits do (R130). -/
theorem le_bvBytes_iff (s : State) (n : Nat) : n ≤ s.bvBytes ↔ 8 * n ≤ s.bvLen.toNat := by
  rw [State.bvBytes, Nat.le_div_iff_mul_le (by decide), Nat.mul_comm]

/-! ### The 64-bit values of the bulk bit commands -/

/-- A bit of VIN is a bit of ARG0 or of ARG1 (R134). -/
theorem getLsbD_vin (s : State) (i : Nat) :
    s.vin.getLsbD i = if i < 32 then s.arg0.getLsbD i else s.arg1.getLsbD (i - 32) := by
  rw [State.vin, BitVec.getLsbD_append]

/-- RES0 and RES1 together hold VOUT bit by bit (R134). -/
theorem getLsbD_setVout (s : State) (v : BitVec 64) {p : Nat} (hp : p < 64) :
    (if p < 32 then (s.setVout v).res0.getLsbD p else (s.setVout v).res1.getLsbD (p - 32)) = v.getLsbD p := by
  rw [State.setVout, State.setResult_res0, State.setResult_res1, BitVec.getLsbD_extractLsb',
    BitVec.getLsbD_extractLsb']
  split
  · simp [*]
  · rw [show 32 + (p - 32) = p by omega, decide_eq_true (show p - 32 < 32 by omega), Bool.true_and]

/-- The last logical index that maps to a bit decides it (R143). -/
theorem getLsbD_scatterBits_iff (map : Nat → Nat) (vin : BitVec 64) (n : Nat) {p : Nat} (hp : p < 64) :
    (scatterBits map vin n).getLsbD p = true ↔
      ∃ i, i < n ∧ map i = p ∧ vin.getLsbD i = true ∧ ∀ j, i < j → j < n → map j ≠ p := by
  induction n with
  | zero => simp [scatterBits]
  | succ n ih =>
    rw [getLsbD_scatterBits_succ _ _ _ _ hp]
    split
    case isTrue hpn =>
      constructor
      · exact fun hbit => ⟨n, by omega, hpn.symm, hbit, by omega⟩
      · rintro ⟨i, hi, -, hbit, hlast⟩
        obtain rfl : i = n := by
          by_contra hne
          exact hlast n (by omega) (by omega) hpn.symm
        exact hbit
    case isFalse hpn =>
      rw [ih]
      constructor
      · rintro ⟨i, hi, hmap, hbit, hlast⟩
        refine ⟨i, by omega, hmap, hbit, fun j hij hj => ?_⟩
        obtain hjn | rfl : j < n ∨ j = n := by omega
        · exact hlast j hij hjn
        · exact Ne.symm hpn
      · rintro ⟨i, hi, hmap, hbit, hlast⟩
        obtain hin | rfl : i < n ∨ i = n := by omega
        · exact ⟨i, hin, hmap, hbit, fun j hij hj => hlast j hij (by omega)⟩
        · exact absurd hmap.symm hpn

/-! ### Configuration -/

/-- The sizes BVCFG accepts, listed (R135). -/
theorem bvSizeOk_iff (n : Nat) : bvSizeOk n = true ↔ n ∈ [8, 16, 24, 32, 40, 48, 56, 64] := by
  simp only [bvSizeOk, decide_eq_true_eq, List.mem_cons, List.not_mem_nil, or_false]
  omega

/-- Settles O10: the one check of BVCFG, both ways. -/
theorem bvcfgConfiguresOrInvalidates : Obligations.BvcfgConfiguresOrInvalidates := by
  intro s nbits
  refine ⟨fun hsize => ⟨nbits.setWidth 7, ?_, ?_⟩, fun hsize => ?_⟩
  · have hle : nbits.toNat ≤ 64 := (of_decide_eq_true ((bvSizeOk_iff _).2 hsize)).2.2
    rw [BitVec.toNat_setWidth]
    omega
  · rw [exec, execBvcfg, if_pos ((bvSizeOk_iff _).2 hsize)]
    rfl
  · rw [exec, execBvcfg, if_neg (mt (bvSizeOk_iff _).1 hsize)]
    rfl

/-! ### Single bits -/

/-- Settles O11: the checks pass, and setting one bit leaves the others. -/
theorem bvsetbitWritesOneBit : Obligations.BvsetbitWritesOneBit := by
  intro s v index _ hvalid hindex
  refine ⟨_, (exec_bvsetbit ..).trans (bitChecked_of_lt hvalid hindex), fun p hp => ?_, rfl⟩
  exact getLsbD_setBit s.bv index.toNat p v hp

/-- A flag zero-extended to a register is 0 or 1. -/
theorem setWidth_flagBit (b : Bool) : (flagBit b).setWidth 32 = if b then 1#32 else 0#32 := by cases b <;> rfl

/-- Settles O12: the checks pass, and the flag is the bit zero-extended. -/
theorem bvgetbitReadsOneBit : Obligations.BvgetbitReadsOneBit := by
  intro s index hvalid hindex
  rw [exec_bvgetbit, bitChecked_of_lt hvalid hindex, setWidth_flagBit]
  rfl

/-! ### Bulk bits -/

/-- Settles O14: the checks pass, and the last logical index that maps to a bit decides it. -/
theorem bvsetbitsScattersThroughTheMapping : Obligations.BvsetbitsScattersThroughTheMapping := by
  intro s sel mp count _ hvalid hsel hcount hmap
  have hfits := (mapOk_iff s mp count.toNat).2 hmap
  refine ⟨_, (exec_bvsetbits hsel ..).trans (bulkChecked_of_fits hvalid hcount hfits), fun p hp => ?_, rfl⟩
  simp only [← getLsbD_vin]
  exact getLsbD_scatterBits_iff (s.mapIndex mp) s.vin count.toNat hp

/-- Settles O15: the checks pass, and VOUT holds the gathered bits. -/
theorem bvgetbitsGathersThroughTheMapping : Obligations.BvgetbitsGathersThroughTheMapping := by
  intro s sel mp count _ hvalid hsel hcount hmap
  have hfits := (mapOk_iff s mp count.toNat).2 hmap
  refine ⟨_, (exec_bvgetbits hsel ..).trans (bulkChecked_of_fits hvalid hcount hfits), fun p hp => ?_, rfl⟩
  exact (getLsbD_setVout s _ hp).trans (getLsbD_gatherBits (s.mapIndex mp) s.bv count.toNat p hp)

/-- A mapping reads MAPRAM and nothing else of the state (R133). -/
theorem mapIndex_congr {t : State} (hmapram : t.mapram = s.mapram) (hepoch : t.epoch = s.epoch) (mp : Mapping) :
    t.mapIndex mp = s.mapIndex mp := by
  funext i
  cases mp with
  | ident => rfl
  | fixed d => rfl
  | user => exact congrArg BitVec.toNat (mapEntry_congr hmapram hepoch i)

/-- Two pairs of words with the same 64 bits are the same. -/
theorem words_eq_of_getLsbD_eq {x0 x1 y0 y1 : Word}
    (h : ∀ p, p < 64 → (if p < 32 then x0.getLsbD p else x1.getLsbD (p - 32)) =
      if p < 32 then y0.getLsbD p else y1.getLsbD (p - 32)) : x0 = y0 ∧ x1 = y1 := by
  constructor <;> refine BitVec.eq_of_getLsbD_eq fun p hp => ?_
  · simpa only [if_pos hp] using h p (by omega)
  · simpa only [if_neg (show ¬ 32 + p < 32 by omega), Nat.add_sub_cancel_left] using h (32 + p) (by omega)

/-- Settles O20: BVGETBITS finds the mapping as BVSETBITS left it, and without a second index that maps to the same
bit the last writer is the index itself. -/
theorem bulkBitsRoundTrip : Obligations.BulkBitsRoundTrip := by
  intro s sel mp count hinv hvalid hsel hcount hmap hinj
  obtain ⟨t, hset, hbits, hframe⟩ := bvsetbitsScattersThroughTheMapping s sel mp count hinv hvalid hsel hcount hmap
  obtain ⟨htvalid, htlen⟩ := (exec_commandEnd hset).keeps_bvConfig (by simp)
  have htmap : t.mapIndex mp = s.mapIndex mp :=
    mapIndex_congr (congrArg State.mapram hframe) (congrArg State.epoch hframe) mp
  obtain ⟨u, hget, hres, -⟩ := bvgetbitsGathersThroughTheMapping t sel mp count (exec_keeps_bvInv hset hinv)
    (htvalid.trans hvalid) hsel (htlen ▸ hcount) (htlen ▸ htmap ▸ hmap)
  have hback : ∀ p, p < 64 → (if p < 32 then u.res0.getLsbD p else u.res1.getLsbD (p - 32)) =
      (decide (p < count.toNat) && if p < 32 then s.arg0.getLsbD p else s.arg1.getLsbD (p - 32)) := by
    intro p hp
    rw [hres p hp, htmap]
    by_cases hpc : p < count.toNat
    case neg => simp [hpc]
    rw [decide_eq_true hpc, Bool.true_and, Bool.true_and, Bool.eq_iff_iff,
      hbits _ (mapIndex_lt s mp p hp)]
    constructor
    · rintro ⟨i, hi, hsame, hbit, -⟩
      rwa [hinj i p hi hpc hsame] at hbit
    · exact fun hbit => ⟨p, hpc, rfl, hbit, fun j hpj hj hsame => hpj.ne' (hinj j p hj hpc hsame)⟩
  refine ⟨t, u, hset, hget, hback, fun h64 => words_eq_of_getLsbD_eq fun p hp => ?_⟩
  rw [hback p hp, h64, decide_eq_true hp, Bool.true_and]

/-! ### Bulk bytes -/

/-- Settles O16: the checks pass, and the packed bytes are those of DBUF. -/
theorem bvsetbytesLoadsBytes : Obligations.BvsetbytesLoadsBytes := by
  intro s count src _ hvalid hcount hrange
  refine ⟨_, (exec_bvsetbytes ..).trans
    (bulkChecked_of_fits hvalid ((le_bvBytes_iff ..).2 hcount) ((rangeOk_iff ..).2 hrange)), fun j hj => ?_, rfl⟩
  have hbyte := extract_packBytes (s.memRead src.toNat count.toNat) j hj
  rw [List.getD_eq_getElem?_getD, getElem?_memRead, apply_ite (Option.getD · 0#8)] at hbyte
  exact hbyte

/-- A MemWrite puts element j of its list at address a + j (R8). -/
theorem dbufByte_memWrite_add (s : State) (a : Nat) {bytes : List Byte} {j : Nat} (hj : j < bytes.length) :
    (s.memWrite a bytes).dbufByte (a + j) = bytes[j] := by
  rw [dbufByte_memWrite, if_pos (Nat.le_add_right a j), Nat.add_sub_cancel_left, List.getElem?_eq_getElem hj,
    Option.getD_some]

/-- A MemWrite changes no byte outside its range (R8). -/
theorem dbufByte_memWrite_of_outside (s : State) {a c : Nat} {bytes : List Byte}
    (hc : c < a ∨ a + bytes.length ≤ c) : (s.memWrite a bytes).dbufByte c = s.dbufByte c := by
  rw [dbufByte_memWrite]
  split
  · rw [List.getElem?_eq_none (by omega), Option.getD_none]
  · rfl

/-- Settles O17: the checks pass, and the bytes written are those of the vector. -/
theorem bvgetbytesStoresBytes : Obligations.BvgetbytesStoresBytes := by
  intro s count dst _ hvalid hcount hrange
  refine ⟨_, (exec_bvgetbytes ..).trans
    (bulkChecked_of_fits hvalid ((le_bvBytes_iff ..).2 hcount) ((rangeOk_iff ..).2 hrange)),
    fun j hj => ?_, fun a ha => ?_, rfl⟩
  · refine (dbufByte_memWrite_add s dst.toNat (by simpa using hj)).trans ?_
    rw [List.getElem_map, List.getElem_range]
  · exact dbufByte_memWrite_of_outside s (by simpa using ha)

/-! ### Errors -/

/-- Settles O18: the shared checks, for each command in turn. -/
theorem bvCommandsFailInOrder : Obligations.BvCommandsFailInOrder := by
  intro s v index count addr sel mp hsel
  rw [exec_bvsetbit, exec_bvgetbit, exec_bvsetbits hsel, exec_bvgetbits hsel, exec_bvsetbytes, exec_bvgetbytes]
  refine ⟨fun hvalid => ?nocfg, fun hvalid hindex => ?bit, fun hvalid hcount hmap => ?mapping,
    fun hvalid hcount hrange => ?range⟩
  case nocfg =>
    exact ⟨bitChecked_of_invalid hvalid, bitChecked_of_invalid hvalid, bulkChecked_of_invalid hvalid,
      bulkChecked_of_invalid hvalid, bulkChecked_of_invalid hvalid, bulkChecked_of_invalid hvalid⟩
  case bit => exact ⟨bitChecked_of_ge hvalid hindex, bitChecked_of_ge hvalid hindex⟩
  case mapping =>
    have hmisfit := mapOk_eq_false_of_exists hmap
    exact ⟨bulkChecked_of_misfit hvalid hcount hmisfit, bulkChecked_of_misfit hvalid hcount hmisfit⟩
  case range =>
    have hmisfit := (rangeOk_eq_false_iff ..).2 hrange
    exact ⟨bulkChecked_of_misfit hvalid hcount hmisfit, bulkChecked_of_misfit hvalid hcount hmisfit⟩

end Sys2Proof.Machine

/-! The statements of spec/42_crc16.md: the register and the function `crc16`, its check value and its residue law, and
the two commands that apply it to DBUF. -/

namespace Sys2Proof.Machine

/-! ### The register -/

/-- A bit of the register after one shift: the bit below it, flipped where 0x1021 has a 1 if bit 15 was 1 (R160). -/
theorem getLsbD_crcShift (c : BitVec 16) {i : Nat} (hi : i < 16) :
    (crcShift c).getLsbD i =
      ((!decide (i < 1) && c.getLsbD (i - 1)) ^^ (c.getLsbD 15 && (0x1021#16).getLsbD i)) := by
  unfold crcShift
  split
  case isTrue htop =>
    rw [BitVec.getLsbD_xor, BitVec.getLsbD_shiftLeft, decide_eq_true hi, htop, Bool.true_and, Bool.true_and]
  case isFalse htop =>
    rw [BitVec.getLsbD_shiftLeft, decide_eq_true hi, Bool.eq_false_iff.2 htop, Bool.true_and, Bool.false_and,
      Bool.xor_false]

/-- A shift loses nothing: bit 0 of the result is the bit shifted out, and so tells whether 0x1021 was XORed in. -/
theorem crcShift_injective : Function.Injective crcShift := by
  intro c d h
  have hbit {i : Nat} (hi : i < 16) :=
    (getLsbD_crcShift c hi).symm.trans ((congrArg (BitVec.getLsbD · i) h).trans (getLsbD_crcShift d hi))
  have htop : c.getLsbD 15 = d.getLsbD 15 := by simpa using hbit (i := 0) (by decide)
  refine BitVec.eq_of_getLsbD_eq fun i hi => ?_
  obtain rfl | hnext : i = 15 ∨ i + 1 < 16 := by omega
  · exact htop
  · have hbelow := hbit hnext
    rw [htop, Bool.xor_left_inj] at hbelow
    simpa using hbelow

theorem crcShifts_injective (n : Nat) : Function.Injective (crcShifts n) := by
  induction n with
  | zero => exact Function.injective_id
  | succ n ih => exact ih.comp crcShift_injective

/-- As long as no 1 is shifted out, the polynomial plays no part. -/
theorem crcShifts_eq_shiftLeft {n : Nat} {c : BitVec 16} (h : c.toNat * 2 ^ n < 2 ^ 16) : crcShifts n c = c <<< n := by
  induction n generalizing c with
  | zero => rw [crcShifts, BitVec.shiftLeft_zero]
  | succ n ih =>
    have hsmall : c.toNat * 2 < 2 ^ 16 :=
      (Nat.mul_le_mul_left _ (Nat.le_self_pow n.succ_ne_zero 2)).trans_lt h
    have htop : c.getLsbD 15 = false := Nat.testBit_lt_two_pow (by omega)
    have hshift : crcShift c = c <<< 1 := by rw [crcShift, htop, if_neg Bool.false_ne_true]
    have hnat : (c <<< 1).toNat = c.toNat * 2 := by
      rw [BitVec.toNat_shiftLeft, Nat.shiftLeft_eq, pow_one, Nat.mod_eq_of_lt hsmall]
    rw [crcShifts, hshift, ih (by rwa [hnat, Nat.mul_assoc, ← Nat.pow_succ']), ← BitVec.shiftLeft_add, Nat.add_comm]

/-- Eight shifts move a byte from the low to the high half of the register. -/
theorem crcShifts_eight_byte (b : Byte) : crcShifts 8 (b.setWidth 16) = b.setWidth 16 <<< 8 :=
  crcShifts_eq_shiftLeft (by rw [BitVec.toNat_setWidth_of_le (by decide)]; omega)

/-! ### The function -/

/-- Settles O23: the nine bytes are run through the register. -/
theorem crcCheckValue : Obligations.CrcCheckValue := by
  unfold Obligations.CrcCheckValue
  decide +kernel

theorem crc16_append_pair (bytes : List Byte) (hi lo : Byte) :
    crc16 (bytes ++ [hi, lo]) = crcByte (crcByte (crc16 bytes) hi) lo := by
  rw [crc16, List.foldl_append]
  rfl

/-- A byte takes the register to 0 exactly when it equals the high half and the low half is 0. -/
theorem crcByte_eq_zero_iff (c : BitVec 16) (b : Byte) : crcByte c b = 0#16 ↔ c = b.setWidth 16 <<< 8 := by
  have hzero : crcShifts 8 0#16 = 0#16 := rfl
  rw [crcByte, (crcShifts_injective 8).eq_iff' hzero, BitVec.xor_eq_zero_iff]

/-- Two bytes XORed into the two halves of a register stand there one after the other. -/
theorem xor_shiftLeft_eq_append (hi lo : Byte) : lo.setWidth 16 ^^^ (hi.setWidth 16 <<< 8) = hi ++ lo := by
  have hlow : lo.setWidth 16 = 0#8 ++ lo := BitVec.setWidth_eq_append (by decide)
  have hhigh : hi.setWidth 16 <<< 8 = hi ++ 0#8 := by
    rw [BitVec.shiftLeft_eq_concat_of_lt (by decide), BitVec.extractLsb'_setWidth_of_le (by decide),
      BitVec.extractLsb'_eq_self]
    rfl
  rw [hlow, hhigh, BitVec.xor_append, BitVec.zero_xor, BitVec.xor_zero]

/-- A byte `hi` leaves `lo` in the high half and 0 in the low half exactly when the register held `hi` and `lo`. -/
theorem crcByte_eq_shiftLeft_iff (c : BitVec 16) (hi lo : Byte) :
    crcByte c hi = lo.setWidth 16 <<< 8 ↔ c = hi ++ lo := by
  rw [crcByte, (crcShifts_injective 8).eq_iff' (crcShifts_eight_byte lo), xor_eq_iff_left_eq, xor_shiftLeft_eq_append]

/-- The two halves of a register, high byte first. -/
theorem eq_append_bytes_iff (c : BitVec 16) (hi lo : Byte) :
    c = hi ++ lo ↔ hi = c.extractLsb' 8 8 ∧ lo = c.extractLsb' 0 8 := by
  constructor
  · rintro rfl
    exact ⟨BitVec.extractLsb'_append_eq_left.symm, BitVec.extractLsb'_append_eq_right.symm⟩
  · rintro ⟨rfl, rfl⟩
    calc c = c.extractLsb' 0 16 := BitVec.extractLsb'_eq_self.symm
      _ = c.extractLsb' 8 8 ++ c.extractLsb' 0 8 :=
        (BitVec.extractLsb'_append_extractLsb'_eq_extractLsb' (start₁ := 0) (len₁ := 8) (len₂ := 8) rfl).symm

/-- Settles O24: the register returns to 0 over two bytes only from the value the two bytes write out. -/
theorem crcResidueIsZero : Obligations.CrcResidueIsZero := by
  intro bytes hi lo
  rw [crc16_append_pair, crcByte_eq_zero_iff, crcByte_eq_shiftLeft_iff, eq_append_bytes_iff]

/-! ### The commands -/

section
variable {s : State} {len dst src : Byte}

/-- A CRC as RES0 shows it (R162). -/
theorem setWidth_eq_zero_append (c : BitVec 16) : c.setWidth 32 = 0#16 ++ c := BitVec.setWidth_eq_append (by decide)

theorem exec_crc16_of_fits (hsrc : src.toNat + len.toNat ≤ 256) :
    exec (.crc16 len src) s =
      .next (s.setResult (0#16 ++ crc16 (s.memRead src.toNat len.toNat)) 0#32).completed := by
  rw [exec, execCrc16, (rangeOk_iff ..).2 hsrc, setWidth_eq_zero_append]
  rfl

theorem exec_crc16_of_misfit (hsrc : 256 < src.toNat + len.toNat) :
    exec (.crc16 len src) s = .next (s.failed .range) := by
  rw [exec, execCrc16, (rangeOk_eq_false_iff ..).2 hsrc]
  rfl

theorem exec_crc16w_of_fits (hsrc : src.toNat + len.toNat ≤ 256) (hdst : dst.toNat + 2 ≤ 256) :
    exec (.crc16w len dst src) s =
      .next ((s.memWrite dst.toNat (crcBytes (crc16 (s.memRead src.toNat len.toNat)))).setResult
        (0#16 ++ crc16 (s.memRead src.toNat len.toNat)) 0#32).completed := by
  rw [exec, execCrc16w, (rangeOk_iff ..).2 hsrc, (rangeOk_iff ..).2 hdst, ← setWidth_eq_zero_append]
  rfl

theorem exec_crc16w_of_misfit (h : 256 < src.toNat + len.toNat ∨ 256 < dst.toNat + 2) :
    exec (.crc16w len dst src) s = .next (s.failed .range) := by
  rw [exec, execCrc16w]
  obtain hsrc | hdst := h
  · rw [(rangeOk_eq_false_iff ..).2 hsrc]
    rfl
  · rw [(rangeOk_eq_false_iff ..).2 hdst, Bool.not_false, Bool.or_true]
    rfl

end

/-- Settles O21: the check of the range decides, and the bytes read are those of the range. -/
theorem crc16ReturnsTheCrc : Obligations.Crc16ReturnsTheCrc := by
  intro s len src
  refine ⟨fun hsrc => ?_, exec_crc16_of_misfit⟩
  rw [exec_crc16_of_fits hsrc, memRead_eq_map]
  rfl

/-- Settles O22: the two bytes of the CRC of the old DBUF are what the write leaves at `dst`, and only there. -/
theorem crc16wStoresTheCrc : Obligations.Crc16wStoresTheCrc := by
  intro s len dst src
  refine ⟨fun hsrc hdst => ?_, exec_crc16w_of_misfit⟩
  rw [← memRead_eq_map]
  refine ⟨_, _, rfl, exec_crc16w_of_fits hsrc hdst, ?high, ?low, fun a ha => ?outside, rfl⟩
  case high => exact dbufByte_memWrite_add (j := 0) s dst.toNat (by simp [crcBytes])
  case low => exact dbufByte_memWrite_add (j := 1) s dst.toNat (by simp [crcBytes])
  case outside => exact dbufByte_memWrite_of_outside s ha

end Sys2Proof.Machine

/-! The statements of spec/43_galois.md: multiplication by x and its powers, the antilog and log tables, the product and
the quotient with their laws, and the four commands. -/

namespace Sys2Proof.Machine

/-! ### Elements -/

theorem gfOrder_pos {m : Nat} (hm : 0 < m) : 0 < gfOrder m := Nat.sub_pos_of_lt (Nat.one_lt_two_pow hm.ne')

/-- An element has no bit at or above the symbol size (R170). -/
theorem getLsbD_eq_false_of_lt {m i : Nat} {v : Byte} (hv : v.toNat < 2 ^ m) (hi : m ≤ i) : v.getLsbD i = false :=
  Nat.testBit_lt_two_pow (hv.trans_le (Nat.pow_le_pow_right two_pos hi))

theorem toNat_lt_of_getLsbD {m : Nat} {v : Byte} (hbits : ∀ i, i < 8 → m ≤ i → v.getLsbD i = false) :
    v.toNat < 2 ^ m := by
  refine Nat.lt_pow_two_of_testBit _ fun i hi => ?_
  obtain hi8 | hi8 := Nat.lt_or_ge i 8
  · exact hbits i hi8 hi
  · exact BitVec.getLsbD_of_ge v i hi8

/-- Sums of elements are elements (R170). -/
theorem toNat_xor_lt {m : Nat} {a b : Byte} (ha : a.toNat < 2 ^ m) (hb : b.toNat < 2 ^ m) :
    (a ^^^ b).toNat < 2 ^ m := by
  rw [BitVec.toNat_xor]
  exact Nat.xor_lt_two_pow ha hb

/-- The non-zero elements as numbers. -/
theorem toNat_mem_Ico_iff (v : Byte) (m : Nat) : v.toNat ∈ Finset.Ico 1 (2 ^ m) ↔ v ≠ 0#8 ∧ v.toNat < 2 ^ m := by
  rw [Finset.mem_Ico, Nat.one_le_iff_ne_zero, ← BitVec.toNat_ne_iff_ne]
  rfl

/-! ### Multiplication by x -/

/-- A bit of `x · v`: the bit below it, flipped where PRIM_POLY has a 1 if the bit shifted up to position m was 1. -/
theorem getLsbD_gfTimesX {f : GField} (hlo : 1 ≤ f.m) (hhi : f.m ≤ 8) (v : Byte) {i : Nat} (hi : i < 8) :
    (gfTimesX f v).getLsbD i =
      ((!decide (i < 1) && v.getLsbD (i - 1)) ^^ (v.getLsbD (f.m - 1) && f.poly.getLsbD i)) := by
  have hshift {j : Nat} (hj : j < 9) :
      (v.setWidth 9 <<< 1).getLsbD j = (!decide (j < 1) && v.getLsbD (j - 1)) := by
    simp [hj]
  have htop : (v.setWidth 9 <<< 1).getLsbD f.m = v.getLsbD (f.m - 1) := by
    rw [hshift (by omega), decide_eq_false (by omega), Bool.not_false, Bool.true_and]
  rw [gfTimesX, htop, BitVec.getLsbD_setWidth, decide_eq_true hi, Bool.true_and, apply_ite (BitVec.getLsbD · i),
    BitVec.getLsbD_xor, hshift (by omega)]
  cases v.getLsbD (f.m - 1) <;> simp

theorem gfTimesX_eq_xor (f : GField) (v : Byte) :
    gfTimesX f v = v <<< 1 ^^^ (if (v.setWidth 9 <<< 1).getLsbD f.m then f.poly.setWidth 8 else 0#8) := by
  have hlow : (v.setWidth 9 <<< 1).setWidth 8 = v <<< 1 := by simp
  rw [gfTimesX, apply_ite (BitVec.setWidth 8), BitVec.setWidth_xor, hlow]
  split <;> simp

/-- A term that a sum of two bits selects is the sum of the terms that the bits select. -/
theorem ite_xor_eq_xor_ite (p q : Bool) (v : Byte) :
    (if p ^^ q then v else 0#8) = (if p then v else 0#8) ^^^ (if q then v else 0#8) := by
  cases p <;> cases q <;> simp

theorem gfTimesX_xor (f : GField) (a b : Byte) : gfTimesX f (a ^^^ b) = gfTimesX f a ^^^ gfTimesX f b := by
  simp only [gfTimesX_eq_xor, BitVec.setWidth_xor, BitVec.shiftLeft_xor_distrib, BitVec.getLsbD_xor,
    ite_xor_eq_xor_ite]
  ac_rfl

@[simp] theorem gfTimesX_zero (f : GField) : gfTimesX f 0#8 = 0#8 := by simpa using gfTimesX_xor f 0#8 0#8

/-! ### Multiplication by a power of x -/

theorem timesXPow_eq_iterate (f : GField) (n : Nat) (a : Byte) : timesXPow f n a = (gfTimesX f)^[n] a := by
  induction n with
  | zero => rfl
  | succ n ih => rw [timesXPow, ih, Function.iterate_succ_apply']

theorem timesXPow_add (f : GField) (i j : Nat) (a : Byte) :
    timesXPow f (i + j) a = timesXPow f i (timesXPow f j a) := by
  simp only [timesXPow_eq_iterate, Function.iterate_add_apply]

/-- The factor x that a power has more can be taken first. -/
theorem timesXPow_succ_apply (f : GField) (n : Nat) (a : Byte) :
    timesXPow f (n + 1) a = timesXPow f n (gfTimesX f a) := timesXPow_add f n 1 a

theorem timesXPow_xor (f : GField) (n : Nat) (a b : Byte) :
    timesXPow f n (a ^^^ b) = timesXPow f n a ^^^ timesXPow f n b := by
  induction n with
  | zero => rfl
  | succ n ih => simp only [timesXPow, ih, gfTimesX_xor]

@[simp] theorem timesXPow_zero_byte (f : GField) (n : Nat) : timesXPow f n 0#8 = 0#8 := by
  simpa using timesXPow_xor f n 0#8 0#8

/-! ### The polynomial product -/

@[simp] theorem polyProduct_zero_left (f : GField) (b : Byte) (n : Nat) : polyProduct f 0#8 b n = 0#8 := by
  induction n with
  | zero => rfl
  | succ n ih => simp [polyProduct, ih]

@[simp] theorem polyProduct_zero_right (f : GField) (a : Byte) (n : Nat) : polyProduct f a 0#8 n = 0#8 := by
  induction n with
  | zero => rfl
  | succ n ih => simp [polyProduct, ih]

/-- The product distributes over the sum of its right factors, term by term. -/
theorem polyProduct_xor (f : GField) (a b c : Byte) (n : Nat) :
    polyProduct f a (b ^^^ c) n = polyProduct f a b n ^^^ polyProduct f a c n := by
  induction n with
  | zero => exact (BitVec.xor_self).symm
  | succ n ih =>
    simp only [polyProduct, ih, BitVec.getLsbD_xor, ite_xor_eq_xor_ite]
    ac_rfl

/-- A factor x of the left factor is a factor of the product. -/
theorem polyProduct_gfTimesX (f : GField) (a b : Byte) (n : Nat) :
    polyProduct f (gfTimesX f a) b n = gfTimesX f (polyProduct f a b n) := by
  induction n with
  | zero => exact (gfTimesX_zero f).symm
  | succ n ih =>
    rw [polyProduct, polyProduct, ih, gfTimesX_xor, apply_ite (gfTimesX f), gfTimesX_zero, ← timesXPow_succ_apply]
    rfl

theorem polyProduct_timesXPow (f : GField) (i : Nat) (a b : Byte) (n : Nat) :
    polyProduct f (timesXPow f i a) b n = timesXPow f i (polyProduct f a b n) := by
  induction i with
  | zero => rfl
  | succ i ih => rw [timesXPow, polyProduct_gfTimesX, ih, timesXPow]

/-! ### The antilog table -/

theorem alphaFrom_eq_map (f : GField) (n : Nat) (v : Byte) :
    alphaFrom f n v = (List.range n).map (timesXPow f · v) := by
  induction n generalizing v with
  | zero => rfl
  | succ n ih => simp [alphaFrom, ih, List.range_succ_eq_map, timesXPow, ← timesXPow_succ_apply]

theorem alphaTable_eq_map (f : GField) :
    alphaTable f = (List.range (gfOrder f.m)).map (timesXPow f · 1#8) := alphaFrom_eq_map ..

theorem length_alphaTable (f : GField) : (alphaTable f).length = gfOrder f.m := by
  rw [alphaTable_eq_map, List.length_map, List.length_range]

/-- Entry i of the antilog table is x^i (R172). -/
theorem alphaTo_eq_timesXPow {f : GField} {i : Nat} (hi : i < gfOrder f.m) : alphaTo f i = timesXPow f i 1#8 := by
  simp [alphaTo, alphaTable_eq_map, hi]

/-- What R171 asks of PRIM_POLY: the degree m, and that x^N is the first power of x after x^0 that is 1. -/
theorem GField.ok_iff (f : GField) :
    f.ok = true ↔ (3 ≤ f.m ∧ f.m ≤ 8) ∧ f.poly >>> f.m = 1#9 ∧ timesXPow f (gfOrder f.m) 1#8 = 1#8 ∧
      ∀ i, 0 < i → i < gfOrder f.m → timesXPow f i 1#8 ≠ 1#8 := by
  have hrest : ((alphaTable f).drop 1).all (· != 1#8) = true ↔
      ∀ i, 0 < i → i < gfOrder f.m → timesXPow f i 1#8 ≠ 1#8 := by
    simp only [alphaTable_eq_map, ← List.map_drop, List.range_eq_range', List.drop_range', List.all_map,
      List.all_eq_true, List.mem_range'_1, Function.comp_apply, bne_iff_ne]
    exact ⟨fun h i hpos hi => h i (by omega), fun h i hi => h i (by omega) (by omega)⟩
  rw [GField.ok, Bool.and_eq_true, Bool.and_eq_true, Bool.and_eq_true, gfSizeOk_iff, hrest, beq_iff_eq, beq_iff_eq,
    and_assoc, and_assoc]

/-! ### The powers of x under a primitive polynomial -/

section
variable {f : GField} {i : Nat} {a b c v : Byte}

theorem GField.three_le (hok : f.ok = true) : 3 ≤ f.m := ((GField.ok_iff f).1 hok).1.1

theorem GField.le_eight (hok : f.ok = true) : f.m ≤ 8 := ((GField.ok_iff f).1 hok).1.2

theorem GField.order_pos (hok : f.ok = true) : 0 < gfOrder f.m :=
  gfOrder_pos (Nat.zero_lt_of_lt (GField.three_le hok))

theorem toNat_one_lt (hok : f.ok = true) : (1#8).toNat < 2 ^ f.m :=
  Nat.one_lt_two_pow (Nat.ne_zero_of_lt (GField.three_le hok))

/-- From position m on, PRIM_POLY has bit m alone (R171). -/
theorem getLsbD_poly (hok : f.ok = true) (hi : f.m ≤ i) : f.poly.getLsbD i = decide (i = f.m) := by
  obtain ⟨-, hdegree, -⟩ := (GField.ok_iff f).1 hok
  have hbit : (f.poly >>> f.m).getLsbD (i - f.m) = (1#9).getLsbD (i - f.m) := by rw [hdegree]
  rw [BitVec.getLsbD_ushiftRight, Nat.add_sub_cancel' hi, BitVec.getLsbD_one] at hbit
  rw [hbit, decide_eq_true (by decide), Bool.true_and, decide_eq_decide]
  omega

/-- The reduction by PRIM_POLY removes the bit shifted up to position m (R172). -/
theorem gfTimesX_lt (hok : f.ok = true) (hv : v.toNat < 2 ^ f.m) : (gfTimesX f v).toNat < 2 ^ f.m := by
  have hlo := GField.three_le hok
  refine toNat_lt_of_getLsbD fun i hi hmi => ?_
  rw [getLsbD_gfTimesX (by omega) (GField.le_eight hok) v hi, getLsbD_poly hok hmi, decide_eq_false (by omega)]
  obtain rfl | hlt := hmi.eq_or_lt
  · simp
  · rw [getLsbD_eq_false_of_lt hv (by omega), decide_eq_false hlt.ne']
    simp

theorem timesXPow_lt (hok : f.ok = true) (n : Nat) (hv : v.toNat < 2 ^ f.m) :
    (timesXPow f n v).toNat < 2 ^ f.m := by
  induction n with
  | zero => exact hv
  | succ n ih => exact gfTimesX_lt hok ih

/-- `x^N = 1` (R172). -/
theorem timesXPow_order (hok : f.ok = true) : timesXPow f (gfOrder f.m) 1#8 = 1#8 := by
  obtain ⟨-, -, hone, -⟩ := (GField.ok_iff f).1 hok
  exact hone

theorem isPeriodicPt_gfTimesX (hok : f.ok = true) : Function.IsPeriodicPt (gfTimesX f) (gfOrder f.m) 1#8 :=
  (timesXPow_eq_iterate ..).symm.trans (timesXPow_order hok)

/-- Exponents of x count modulo N (R172). -/
theorem timesXPow_mod_order (hok : f.ok = true) (n : Nat) :
    timesXPow f (n % gfOrder f.m) 1#8 = timesXPow f n 1#8 := by
  simp only [timesXPow_eq_iterate, (isPeriodicPt_gfTimesX hok).iterate_mod_apply]

theorem minimalPeriod_gfTimesX (hok : f.ok = true) : Function.minimalPeriod (gfTimesX f) 1#8 = gfOrder f.m := by
  obtain ⟨-, -, -, hfirst⟩ := (GField.ok_iff f).1 hok
  have hperiod := isPeriodicPt_gfTimesX hok
  refine (hperiod.minimalPeriod_le (GField.order_pos hok)).antisymm (Nat.le_of_not_lt fun hlt => ?_)
  refine hfirst _ (hperiod.minimalPeriod_pos (GField.order_pos hok)) hlt ?_
  exact (timesXPow_eq_iterate ..).trans (Function.isPeriodicPt_minimalPeriod ..)

/-- The first N powers of x differ from each other. -/
theorem timesXPow_injOn (hok : f.ok = true) : Set.InjOn (timesXPow f · 1#8) (Set.Iio (gfOrder f.m)) := by
  simp only [timesXPow_eq_iterate, ← minimalPeriod_gfTimesX hok]
  exact Function.iterate_injOn_Iio_minimalPeriod

/-- A power of x is not 0: some further power of x makes it 1. -/
theorem timesXPow_one_ne_zero (hok : f.ok = true) (n : Nat) : timesXPow f n 1#8 ≠ 0#8 := by
  intro hzero
  have hback : timesXPow f (gfOrder f.m - n % gfOrder f.m) (timesXPow f n 1#8) = 1#8 := by
    rw [← timesXPow_mod_order hok n, ← timesXPow_add, Nat.sub_add_cancel (Nat.mod_lt _ (GField.order_pos hok)).le,
      timesXPow_order hok]
  rw [hzero, timesXPow_zero_byte] at hback
  exact absurd hback (by decide)

/-- The N powers of x are N different non-zero elements, and there are no more than N (R172). -/
theorem exists_timesXPow_eq (hok : f.ok = true) (hv0 : v ≠ 0#8) (hv : v.toNat < 2 ^ f.m) :
    ∃ i, i < gfOrder f.m ∧ timesXPow f i 1#8 = v := by
  have hmaps : Set.MapsTo (fun i => (timesXPow f i 1#8).toNat) (Finset.range (gfOrder f.m))
      (Finset.Ico 1 (2 ^ f.m)) := fun i _ => Finset.mem_coe.2
    ((toNat_mem_Ico_iff ..).2 ⟨timesXPow_one_ne_zero hok i, timesXPow_lt hok i (toNat_one_lt hok)⟩)
  have hinj : Set.InjOn (fun i => (timesXPow f i 1#8).toNat) (Finset.range (gfOrder f.m)) := by
    rw [Finset.coe_range]
    exact fun i hi j hj h => timesXPow_injOn hok hi hj (BitVec.eq_of_toNat_eq h)
  have hcard : (Finset.Ico 1 (2 ^ f.m)).card ≤ (Finset.range (gfOrder f.m)).card := by
    rw [Nat.card_Ico, Finset.card_range, gfOrder]
  obtain ⟨i, hi, heq⟩ := Finset.surjOn_of_injOn_of_card_le _ hmaps hinj hcard
    (Finset.mem_coe.2 ((toNat_mem_Ico_iff ..).2 ⟨hv0, hv⟩))
  exact ⟨i, Finset.mem_range.1 hi, BitVec.eq_of_toNat_eq heq⟩

/-! ### The log table -/

theorem nodup_alphaTable (hok : f.ok = true) : (alphaTable f).Nodup := by
  rw [alphaTable_eq_map]
  refine List.Nodup.map_on (fun i hi j hj h => ?_) List.nodup_range
  exact timesXPow_injOn hok (List.mem_range.1 hi) (List.mem_range.1 hj) h

/-- The log of x^i is i (R173). -/
theorem indexOf_timesXPow (hok : f.ok = true) (hi : i < gfOrder f.m) : indexOf f (timesXPow f i 1#8) = i := by
  have hentry : (alphaTable f)[i]'(by rwa [length_alphaTable]) = timesXPow f i 1#8 := by
    simp [alphaTable_eq_map]
  rw [indexOf, ← hentry, (nodup_alphaTable hok).idxOf_getElem]

theorem indexOf_lt (hok : f.ok = true) (hv0 : v ≠ 0#8) (hv : v.toNat < 2 ^ f.m) : indexOf f v < gfOrder f.m := by
  obtain ⟨i, hi, rfl⟩ := exists_timesXPow_eq hok hv0 hv
  rwa [indexOf_timesXPow hok hi]

/-- A non-zero element is the power of x that its log names (R173). -/
theorem timesXPow_indexOf (hok : f.ok = true) (hv0 : v ≠ 0#8) (hv : v.toNat < 2 ^ f.m) :
    timesXPow f (indexOf f v) 1#8 = v := by
  obtain ⟨i, hi, rfl⟩ := exists_timesXPow_eq hok hv0 hv
  rw [indexOf_timesXPow hok hi]

/-- `α^e` is x^e, whatever the exponent (R172). -/
theorem alphaPow_eq_timesXPow (hok : f.ok = true) (e : Nat) : alphaPow f e = timesXPow f e 1#8 := by
  rw [alphaPow, alphaTo_eq_timesXPow (Nat.mod_lt _ (GField.order_pos hok)), timesXPow_mod_order hok]

/-! ### The product -/

theorem timesXPow_one_eq_twoPow (hok : f.ok = true) (hi : i < f.m) : timesXPow f i 1#8 = BitVec.twoPow 8 i := by
  induction i with
  | zero => rfl
  | succ i ih =>
    refine BitVec.eq_of_getLsbD_eq fun p hp => ?_
    have hm := GField.le_eight hok
    rw [timesXPow, ih (by omega), getLsbD_gfTimesX (by omega) hm _ hp]
    simp only [BitVec.getLsbD_twoPow, decide_eq_false (show ¬i = f.m - 1 by omega), Bool.and_false, Bool.false_and,
      Bool.xor_false]
    grind

/-- The product of 1 and the terms of `b` below `x^n` keeps the bits of `b` below n. -/
theorem getLsbD_polyProduct_one (hok : f.ok = true) (hb : b.toNat < 2 ^ f.m) (n p : Nat) :
    (polyProduct f 1#8 b n).getLsbD p = (decide (p < n) && b.getLsbD p) := by
  induction n with
  | zero => simp [polyProduct]
  | succ n ih =>
    rw [polyProduct, BitVec.getLsbD_xor, ih]
    cases hbit : b.getLsbD n
    case false => grind
    case true =>
      have hn : n < f.m := by
        by_contra hge
        exact absurd hbit (by simp [getLsbD_eq_false_of_lt hb (Nat.le_of_not_lt hge)])
      rw [if_pos rfl, timesXPow_one_eq_twoPow hok hn, BitVec.getLsbD_twoPow]
      grind

theorem polyProduct_one_left (hok : f.ok = true) (hb : b.toNat < 2 ^ f.m) : polyProduct f 1#8 b 8 = b := by
  refine BitVec.eq_of_getLsbD_eq fun p hp => ?_
  rw [getLsbD_polyProduct_one hok hb, decide_eq_true hp, Bool.true_and]

/-- The product with a power of x applies that power. -/
theorem polyProduct_timesXPow_one (hok : f.ok = true) (n : Nat) (hb : b.toNat < 2 ^ f.m) :
    polyProduct f (timesXPow f n 1#8) b 8 = timesXPow f n b := by
  rw [polyProduct_timesXPow, polyProduct_one_left hok hb]

@[simp] theorem gfMul_zero_left (f : GField) (b : Byte) : gfMul f 0#8 b = 0#8 := if_pos (.inl rfl)

@[simp] theorem gfMul_zero_right (f : GField) (a : Byte) : gfMul f a 0#8 = 0#8 := if_pos (.inr rfl)

theorem gfMul_comm (f : GField) (a b : Byte) : gfMul f a b = gfMul f b a := by
  simp only [gfMul, or_comm, Nat.add_comm]

/-- Two non-zero elements multiply by the sum of their logs (R174). -/
theorem gfMul_eq_alphaPow (ha0 : a ≠ 0#8) (hb0 : b ≠ 0#8) : gfMul f a b = alphaPow f (indexOf f a + indexOf f b) :=
  if_neg (not_or.2 ⟨ha0, hb0⟩)

/-- The product by logarithms is the product of polynomials (R174). -/
theorem gfMul_eq_polyProduct (hok : f.ok = true) (ha : a.toNat < 2 ^ f.m) (hb : b.toNat < 2 ^ f.m) :
    gfMul f a b = polyProduct f a b 8 := by
  by_cases ha0 : a = 0#8
  · rw [ha0, gfMul_zero_left, polyProduct_zero_left]
  by_cases hb0 : b = 0#8
  · rw [hb0, gfMul_zero_right, polyProduct_zero_right]
  calc gfMul f a b
      = timesXPow f (indexOf f a + indexOf f b) 1#8 := by rw [gfMul_eq_alphaPow ha0 hb0, alphaPow_eq_timesXPow hok]
    _ = timesXPow f (indexOf f a) b := by rw [timesXPow_add, timesXPow_indexOf hok hb0 hb]
    _ = polyProduct f (timesXPow f (indexOf f a) 1#8) b 8 := (polyProduct_timesXPow_one hok _ hb).symm
    _ = polyProduct f a b 8 := by rw [timesXPow_indexOf hok ha0 ha]

/-- A power of x in the left factor is a factor of the product. -/
theorem gfMul_timesXPow (hok : f.ok = true) (n : Nat) (ha : a.toNat < 2 ^ f.m) (hb : b.toNat < 2 ^ f.m) :
    gfMul f (timesXPow f n a) b = timesXPow f n (gfMul f a b) := by
  rw [gfMul_eq_polyProduct hok (timesXPow_lt hok n ha) hb, gfMul_eq_polyProduct hok ha hb, polyProduct_timesXPow]

theorem gfMul_one_left (hok : f.ok = true) (hb : b.toNat < 2 ^ f.m) : gfMul f 1#8 b = b := by
  rw [gfMul_eq_polyProduct hok (toNat_one_lt hok) hb, polyProduct_one_left hok hb]

/-- A non-zero left factor applies the power of x that its log names. -/
theorem gfMul_eq_timesXPow (hok : f.ok = true) (ha0 : a ≠ 0#8) (ha : a.toNat < 2 ^ f.m) (hb : b.toNat < 2 ^ f.m) :
    gfMul f a b = timesXPow f (indexOf f a) b := by
  rw [← congrArg (gfMul f · b) (timesXPow_indexOf hok ha0 ha), gfMul_timesXPow hok _ (toNat_one_lt hok) hb,
    gfMul_one_left hok hb]

theorem gfMul_lt (hok : f.ok = true) (ha : a.toNat < 2 ^ f.m) (hb : b.toNat < 2 ^ f.m) :
    (gfMul f a b).toNat < 2 ^ f.m := by
  by_cases ha0 : a = 0#8
  · rw [ha0, gfMul_zero_left]
    exact Nat.two_pow_pos f.m
  · rw [gfMul_eq_timesXPow hok ha0 ha hb]
    exact timesXPow_lt hok _ hb

theorem gfMul_assoc (hok : f.ok = true) (ha : a.toNat < 2 ^ f.m) (hb : b.toNat < 2 ^ f.m) (hc : c.toNat < 2 ^ f.m) :
    gfMul f (gfMul f a b) c = gfMul f a (gfMul f b c) := by
  by_cases ha0 : a = 0#8
  · rw [ha0, gfMul_zero_left, gfMul_zero_left, gfMul_zero_left]
  · rw [gfMul_eq_timesXPow hok ha0 ha hb, gfMul_timesXPow hok _ hb hc,
      gfMul_eq_timesXPow hok ha0 ha (gfMul_lt hok hb hc)]

theorem gfMul_xor_right (hok : f.ok = true) (ha : a.toNat < 2 ^ f.m) (hb : b.toNat < 2 ^ f.m)
    (hc : c.toNat < 2 ^ f.m) : gfMul f a (b ^^^ c) = gfMul f a b ^^^ gfMul f a c := by
  rw [gfMul_eq_polyProduct hok ha (toNat_xor_lt hb hc), gfMul_eq_polyProduct hok ha hb,
    gfMul_eq_polyProduct hok ha hc, polyProduct_xor]

/-! ### The quotient -/

@[simp] theorem gfDiv_zero_left (f : GField) (b : Byte) : gfDiv f 0#8 b = 0#8 := if_pos rfl

theorem gfDiv_eq_alphaPow (ha0 : a ≠ 0#8) :
    gfDiv f a b = alphaPow f (indexOf f a + (gfOrder f.m - indexOf f b)) := if_neg ha0

theorem gfDiv_lt (hok : f.ok = true) (a b : Byte) : (gfDiv f a b).toNat < 2 ^ f.m := by
  by_cases ha0 : a = 0#8
  · rw [ha0, gfDiv_zero_left]
    exact Nat.two_pow_pos f.m
  · rw [gfDiv_eq_alphaPow ha0, alphaPow_eq_timesXPow hok]
    exact timesXPow_lt hok _ (toNat_one_lt hok)

/-- The logs of quotient and divisor add up to the log of the dividend, and N (R175). -/
theorem gfMul_gfDiv_cancel (hok : f.ok = true) (ha : a.toNat < 2 ^ f.m) (hb : b.toNat < 2 ^ f.m) (hb0 : b ≠ 0#8) :
    gfMul f (gfDiv f a b) b = a := by
  by_cases ha0 : a = 0#8
  · rw [ha0, gfDiv_zero_left, gfMul_zero_left]
  have hexponent : indexOf f a + (gfOrder f.m - indexOf f b) + indexOf f b = indexOf f a + gfOrder f.m := by
    have := indexOf_lt hok hb0 hb
    omega
  calc gfMul f (gfDiv f a b) b
      = timesXPow f (indexOf f a + (gfOrder f.m - indexOf f b)) b := by
        rw [gfDiv_eq_alphaPow ha0, alphaPow_eq_timesXPow hok, gfMul_timesXPow hok _ (toNat_one_lt hok) hb,
          gfMul_one_left hok hb]
    _ = timesXPow f (indexOf f a + gfOrder f.m) 1#8 := by
        rw [← hexponent, timesXPow_add _ _ (indexOf f b), timesXPow_indexOf hok hb0 hb]
    _ = a := by rw [timesXPow_add, timesXPow_order hok, timesXPow_indexOf hok ha0 ha]

end

/-- Settles O30: the powers of x are the entries of both tables. -/
theorem gfTablesAreInverse : Obligations.GfTablesAreInverse := by
  intro f hok
  refine ⟨fun i hi => ?entry, fun v hv0 hv => ?log, timesXPow_order hok⟩
  case entry =>
    rw [alphaTo_eq_timesXPow hi]
    exact ⟨rfl, timesXPow_one_ne_zero hok i, timesXPow_lt hok i (toNat_one_lt hok), indexOf_timesXPow hok hi⟩
  case log =>
    have hlt := indexOf_lt hok hv0 hv
    exact ⟨hlt, (alphaTo_eq_timesXPow hlt).trans (timesXPow_indexOf hok hv0 hv)⟩

/-- Settles O31: a non-zero factor is a power of x, which both products apply to the other factor. -/
theorem gfMulIsPolynomialProduct : Obligations.GfMulIsPolynomialProduct :=
  fun _ _ _ hok ha hb => gfMul_eq_polyProduct hok ha hb

/-- Settles O32: law by law. -/
theorem gfFieldLaws : Obligations.GfFieldLaws := by
  intro f a b c hok ha hb hc
  refine ⟨BitVec.xor_comm a b, gfMul_comm f a b, gfMul_assoc hok ha hb hc, gfMul_xor_right hok ha hb hc, ?one,
    gfMul_zero_right f a, gfMul_gfDiv_cancel hok ha hb, ?power, toNat_xor_lt ha hb, gfMul_lt hok ha hb,
    fun _ => gfDiv_lt hok a b⟩
  case one => rw [gfMul_comm, gfMul_one_left hok ha]
  case power => exact (alphaPow_eq_timesXPow hok _).trans (timesXPow_order hok)

/-! ### The commands -/

/-- The checks of a field command before its outcome `u`: the size, then the operands that must be elements
(R176 to R179). -/
def fieldChecked (s : State) (m : BitVec 4) (elements : Bool) (u : Result) : Result :=
  if !gfSizeOk m.toNat then s.failWith .operand
  else if !elements then s.failWith .operand
  else u

section
variable {s : State} {m : BitVec 4} {elements : Bool} {u : Result} {a b : Byte}

/-- An element as RES0 shows it (R176). -/
theorem setWidth_byte_eq_append (v : Byte) : v.setWidth 32 = 0#24 ++ v := BitVec.setWidth_eq_append (by decide)

theorem exec_gfmul (s : State) (m : BitVec 4) (a b : Byte) :
    exec (.gfmul m a b) s = fieldChecked s m (isElement m.toNat a && isElement m.toNat b)
      (.next (s.setResult (0#24 ++ gfMul (s.field m.toNat) a b) 0#32).completed) := by
  rw [fieldChecked, Bool.not_and, ← setWidth_byte_eq_append]
  rfl

theorem exec_gfdiv (s : State) (m : BitVec 4) (a b : Byte) :
    exec (.gfdiv m a b) s = fieldChecked s m (isElement m.toNat a && isElement m.toNat b)
      (if b = 0#8 then .next (s.failed .zero)
      else .next (s.setResult (0#24 ++ gfDiv (s.field m.toNat) a b) 0#32).completed) := by
  rw [fieldChecked, Bool.not_and, ← setWidth_byte_eq_append]
  rfl

theorem exec_gfexp (s : State) (m : BitVec 4) (e : Byte) :
    exec (.gfexp m e) s = fieldChecked s m true
      (.next (s.setResult (0#24 ++ alphaPow (s.field m.toNat) e.toNat) 0#32).completed) := by
  rw [← setWidth_byte_eq_append]
  rfl

theorem exec_gflog (s : State) (m : BitVec 4) (x : Byte) :
    exec (.gflog m x) s = fieldChecked s m (isElement m.toNat x)
      (if x = 0#8 then .next (s.failed .zero)
      else .next (s.setResult (BitVec.ofNat 32 (indexOf (s.field m.toNat) x)) 0#32).completed) := rfl

theorem fieldChecked_of_badSize (hsize : m.toNat < 3 ∨ 8 < m.toNat) :
    fieldChecked s m elements u = .next (s.failed .operand) := by
  have hbad : gfSizeOk m.toNat = false := by
    rw [← Bool.not_eq_true, gfSizeOk_iff]
    omega
  rw [fieldChecked, hbad]
  rfl

/-- A good size and an operand that is no element fail with OPERAND too, so the size need not be known. -/
theorem fieldChecked_of_nonElement (helements : elements = false) :
    fieldChecked s m elements u = .next (s.failed .operand) := by
  rw [fieldChecked, helements, Bool.not_false, if_pos rfl, ite_self]
  rfl

theorem fieldChecked_of_elements (hlo : 3 ≤ m.toNat) (hhi : m.toNat ≤ 8) (helements : elements = true) :
    fieldChecked s m elements u = u := by
  rw [fieldChecked, (gfSizeOk_iff _).2 ⟨hlo, hhi⟩, helements]
  rfl

theorem isElement_eq_false_iff (n : Nat) (v : Byte) : isElement n v = false ↔ 2 ^ n ≤ v.toNat := by
  rw [← Bool.not_eq_true, isElement_iff, Nat.not_lt]

theorem isElements_of_lt {n : Nat} (ha : a.toNat < 2 ^ n) (hb : b.toNat < 2 ^ n) :
    (isElement n a && isElement n b) = true :=
  Bool.and_eq_true_iff.2 ⟨(isElement_iff ..).2 ha, (isElement_iff ..).2 hb⟩

/-- The polynomial of every size the commands accept is primitive (R171). -/
theorem field_ok (hprim : s.primInv) (hlo : 3 ≤ m.toNat) (hhi : m.toNat ≤ 8) : (s.field m.toNat).ok = true := by
  refine hprim _ ?_
  simp only [List.mem_cons, List.not_mem_nil, or_false]
  omega

end

/-- Settles O25: the checks pass, and the product by logarithms is that of the polynomials. -/
theorem gfmulReturnsTheProduct : Obligations.GfmulReturnsTheProduct := by
  intro s m a b hprim hlo hhi ha hb
  rw [exec_gfmul, fieldChecked_of_elements hlo hhi (isElements_of_lt ha hb),
    gfMul_eq_polyProduct (field_ok hprim hlo hhi) ha hb]
  rfl

/-- Settles O26: the checks pass, and multiplication undoes the division. -/
theorem gfdivReturnsTheQuotient : Obligations.GfdivReturnsTheQuotient := by
  intro s m a b hprim hlo hhi ha hb hb0
  have hok := field_ok hprim hlo hhi
  refine ⟨gfDiv (s.field m.toNat) a b, gfDiv_lt hok a b, gfMul_gfDiv_cancel hok ha hb hb0, ?_⟩
  rw [exec_gfdiv, fieldChecked_of_elements hlo hhi (isElements_of_lt ha hb), if_neg hb0]
  rfl

/-- Settles O27: the check passes, and the exponent counts modulo N. -/
theorem gfexpReturnsThePower : Obligations.GfexpReturnsThePower := by
  intro s m e hprim hlo hhi
  rw [exec_gfexp, fieldChecked_of_elements hlo hhi rfl, alphaPow_eq_timesXPow (field_ok hprim hlo hhi)]
  rfl

/-- Settles O28: the checks pass, and the operand is the power of x that its log names. -/
theorem gflogReturnsTheExponent : Obligations.GflogReturnsTheExponent := by
  intro s m x hprim hlo hhi hx hx0
  have hok := field_ok hprim hlo hhi
  refine ⟨indexOf (s.field m.toNat) x, indexOf_lt hok hx0 hx, timesXPow_indexOf hok hx0 hx, ?_⟩
  rw [exec_gflog, fieldChecked_of_elements hlo hhi ((isElement_iff ..).2 hx), if_neg hx0]
  rfl

/-- Settles O29: the shared checks, for each command in turn. -/
theorem gfCommandsFailInOrder : Obligations.GfCommandsFailInOrder := by
  intro s m a b e
  simp only [exec_gfmul, exec_gfdiv, exec_gfexp, exec_gflog, if_true]
  refine ⟨fun hsize => ?size, fun _ _ hab => ?elements, fun _ _ hb => ?element, fun hlo hhi ha => ?zero⟩
  case size =>
    exact ⟨fieldChecked_of_badSize hsize, fieldChecked_of_badSize hsize, fieldChecked_of_badSize hsize,
      fieldChecked_of_badSize hsize⟩
  case elements =>
    have hbad : (isElement m.toNat a && isElement m.toNat b) = false := by
      rwa [Bool.and_eq_false_iff, isElement_eq_false_iff, isElement_eq_false_iff]
    exact ⟨fieldChecked_of_nonElement hbad, fieldChecked_of_nonElement hbad⟩
  case element => exact fieldChecked_of_nonElement ((isElement_eq_false_iff ..).2 hb)
  case zero =>
    have hzero : (0#8).toNat < 2 ^ m.toNat := Nat.two_pow_pos _
    exact ⟨fieldChecked_of_elements hlo hhi (isElements_of_lt ha hzero),
      fieldChecked_of_elements hlo hhi ((isElement_iff ..).2 hzero)⟩

end Sys2Proof.Machine

/-! The algebra behind spec/44_reed_solomon.md, over any field: what the syndromes of an error, a locator
polynomial and an evaluator have to do with each other (R203, R204), and what Massey's synthesis finds (R199). -/

namespace Sys2Proof.Machine

open Polynomial

section
variable {K : Type} [Field K]

/-! ### Polynomials with known roots -/

section
variable {Λ : K[X]} {a b : K}

/-- Dividing the factor of a root out leaves there the value of the derivative. -/
theorem eval_divByMonic_self (hroot : Λ.eval a = 0) : (Λ /ₘ (X - C a)).eval a = Λ.derivative.eval a := by
  have hmul := mul_divByMonic_eq_iff_isRoot.2 hroot
  simpa using congrArg (fun p => p.derivative.eval a) hmul

/-- Dividing the factor of a root out leaves every other root. -/
theorem eval_divByMonic_of_ne (hroot : Λ.eval a = 0) (hb : Λ.eval b = 0) (hne : b ≠ a) :
    (Λ /ₘ (X - C a)).eval b = 0 := by
  have hmul := congrArg (eval b) (mul_divByMonic_eq_iff_isRoot.2 hroot)
  rw [hb, eval_mul, eval_sub, eval_X, eval_C] at hmul
  exact (mul_eq_zero.1 hmul).resolve_left (sub_ne_zero.2 hne)

theorem degree_divByMonic_X_sub_C_lt (hΛ : Λ ≠ 0) (a : K) : (Λ /ₘ (X - C a)).degree < Λ.degree :=
  degree_divByMonic_lt Λ (X - C a) hΛ (by rw [degree_X_sub_C]; exact zero_lt_one)

/-- A polynomial with as many roots as its degree has simple roots (R202, item 3). -/
theorem eval_derivative_ne_zero {E : Finset ℕ} {x : ℕ → K} (hΛ : Λ ≠ 0) (hinj : Set.InjOn x E)
    (hroot : ∀ e ∈ E, Λ.eval (x e) = 0) (hdeg : Λ.natDegree ≤ E.card) {e : ℕ} (he : e ∈ E) :
    Λ.derivative.eval (x e) ≠ 0 := by
  intro hderiv
  have hquot : Λ /ₘ (X - C (x e)) = 0 := by
    refine eq_zero_of_degree_lt_of_eval_index_eq_zero (v := x) E hinj
      ((degree_divByMonic_X_sub_C_lt hΛ _).trans_le (degree_le_of_natDegree_le hdeg)) fun e' he' => ?_
    obtain heq | hne := eq_or_ne (x e') (x e)
    · rw [heq, eval_divByMonic_self (hroot e he), hderiv]
    · exact eval_divByMonic_of_ne (hroot e he) (hroot e' he') hne
  refine hΛ ?_
  rw [← mul_divByMonic_eq_iff_isRoot.2 (hroot e he), hquot, mul_zero]

end

/-! ### The key equation -/

section
variable {E : Finset ℕ} {y a : ℕ → K} {Λ : K[X]} {r : ℕ}

/-- The power sums of values `y` at locators `a`, as the coefficients of a polynomial: the syndromes of an error
(R198). -/
noncomputable def powerSums (E : Finset ℕ) (y a : ℕ → K) (r : ℕ) : K[X] :=
  ∑ i ∈ Finset.range r, C (∑ e ∈ E, y e * a e ^ (i + 1)) * X ^ i

/-- The evaluator that belongs to a polynomial `Λ` with a root at the inverse of every locator (R203). -/
noncomputable def evaluator (E : Finset ℕ) (y a : ℕ → K) (Λ : K[X]) : K[X] :=
  ∑ e ∈ E, C (y e) * (Λ /ₘ (X - C (a e)⁻¹))

theorem coeff_powerSums (i : ℕ) :
    (powerSums E y a r).coeff i = if i < r then ∑ e ∈ E, y e * a e ^ (i + 1) else 0 := by
  simp only [powerSums, finsetSum_coeff, coeff_C_mul_X_pow, Finset.sum_ite_eq, Finset.mem_range]

theorem powerSums_eq_sum :
    powerSums E y a r = ∑ e ∈ E, C (y e) * ∑ i ∈ Finset.range r, C (a e ^ (i + 1)) * X ^ i := by
  simp only [powerSums, map_sum, Finset.sum_mul, Finset.mul_sum, map_mul, mul_assoc]
  exact Finset.sum_comm

/-- The geometric series of one locator. -/
theorem mul_geometric {c : K} (hc : c ≠ 0) (hroot : Λ.eval c⁻¹ = 0) :
    Λ * ∑ i ∈ Finset.range r, C (c ^ (i + 1)) * X ^ i = (Λ /ₘ (X - C c⁻¹)) * ((C c * X) ^ r - 1) := by
  have hseries : ∑ i ∈ Finset.range r, C (c ^ (i + 1)) * X ^ i = C c * ∑ i ∈ Finset.range r, (C c * X) ^ i := by
    rw [Finset.mul_sum]
    refine Finset.sum_congr rfl fun i _ => ?_
    rw [pow_succ', C_mul, C_pow, mul_pow, mul_assoc]
  have hone : C c * C c⁻¹ = (1 : K[X]) := by rw [← C_mul, mul_inv_cancel₀ hc, C_1]
  calc Λ * ∑ i ∈ Finset.range r, C (c ^ (i + 1)) * X ^ i
      = (X - C c⁻¹) * (Λ /ₘ (X - C c⁻¹)) * (C c * ∑ i ∈ Finset.range r, (C c * X) ^ i) := by
        rw [hseries, mul_divByMonic_eq_iff_isRoot.2 hroot]
    _ = (Λ /ₘ (X - C c⁻¹)) * ((∑ i ∈ Finset.range r, (C c * X) ^ i) * (C c * X - C c * C c⁻¹)) := by ring
    _ = (Λ /ₘ (X - C c⁻¹)) * ((C c * X) ^ r - 1) := by rw [hone, geom_sum_mul]

/-- `Λ · S ≡ -Ω` modulo `x^r` (R203). -/
theorem key_equation (ha : ∀ e ∈ E, a e ≠ 0) (hroot : ∀ e ∈ E, Λ.eval (a e)⁻¹ = 0) :
    X ^ r ∣ Λ * powerSums E y a r + evaluator E y a Λ := by
  rw [powerSums_eq_sum, evaluator, Finset.mul_sum, ← Finset.sum_add_distrib]
  refine Finset.dvd_sum fun e he => ?_
  rw [mul_left_comm, mul_geometric (ha e he) (hroot e he)]
  exact ⟨C (y e) * (Λ /ₘ (X - C (a e)⁻¹)) * C (a e) ^ r, by ring⟩

theorem degree_evaluator_lt (hΛ : Λ ≠ 0) : (evaluator E y a Λ).degree < Λ.degree := by
  have hterm (e : ℕ) (_ : e ∈ E) : (C (y e) * (Λ /ₘ (X - C (a e)⁻¹))).degree < Λ.degree := by
    rw [C_mul']
    exact (degree_smul_le _ _).trans_lt (degree_divByMonic_X_sub_C_lt hΛ _)
  exact (degree_sum_le _ _).trans_lt ((Finset.sup_lt_iff (bot_lt_iff_ne_bot.2 (degree_ne_bot.2 hΛ))).2 hterm)

/-- The evaluator at a root is the value there times the derivative of the locator polynomial (R204). -/
theorem eval_evaluator (hinj : Set.InjOn a E) (hroot : ∀ e ∈ E, Λ.eval (a e)⁻¹ = 0) {e : ℕ} (he : e ∈ E) :
    (evaluator E y a Λ).eval (a e)⁻¹ = y e * Λ.derivative.eval (a e)⁻¹ := by
  rw [evaluator, eval_finsetSum, Finset.sum_eq_single_of_mem e he fun e' he' hne => ?_]
  · rw [eval_C_mul, eval_divByMonic_self (hroot e he)]
  · have hne' : (a e)⁻¹ ≠ (a e')⁻¹ := fun h => hne (hinj he' he (inv_injective h.symm))
    rw [eval_C_mul, eval_divByMonic_of_ne (hroot e' he') (hroot e he) hne', mul_zero]

end

/-! ### Linear recurrences -/

/-- `Λ`, as a register of length `L`, generates the first `t` coefficients of `S` (R199). -/
structure Generates (S Λ : K[X]) (L t : ℕ) : Prop where
  coeff_zero : Λ.coeff 0 = 1
  natDegree_le : Λ.natDegree ≤ L
  coeff_mul : ∀ j, L ≤ j → j < t → (Λ * S).coeff j = 0

section
variable {S Λ Λ' Q : K[X]} {L L' r t : ℕ} {b d : K}

theorem Generates.ne_zero (h : Generates S Λ L t) : Λ ≠ 0 := by
  rintro rfl
  exact zero_ne_one h.coeff_zero

theorem Generates.mono (h : Generates S Λ L (t + 1)) : Generates S Λ L t :=
  { h with coeff_mul := fun j hj hjt => h.coeff_mul j hj (by omega) }

/-- A coefficient of a product, where the coefficients below it vanish in one factor as far as the other one reaches. -/
theorem coeff_mul_of_vanishing {P : K[X]} (hdeg : Λ.natDegree ≤ L)
    (hP : ∀ j, t ≤ L + j → j < t → P.coeff j = 0) : (Λ * P).coeff t = Λ.coeff 0 * P.coeff t := by
  rw [Polynomial.coeff_mul, Finset.sum_eq_single_of_mem (0, t) (by simp) fun p hp hne => ?_]
  have hsum : p.1 + p.2 = t := Finset.HasAntidiagonal.mem_antidiagonal.1 hp
  have hpos : p.1 ≠ 0 := fun h0 => hne (Prod.ext h0 (by simpa [h0] using hsum))
  obtain hle | hlt := le_or_gt p.1 L
  · rw [hP p.2 (by omega) (by omega), mul_zero]
  · rw [coeff_eq_zero_of_natDegree_lt (hdeg.trans_lt hlt), zero_mul]

/-- Massey's lemma: where one register fails first and another one does not fail, the two lengths together exceed the
place. -/
theorem Generates.lt_add (h : Generates S Λ L t) (h' : Generates S Λ' L' (t + 1)) (hd : (Λ * S).coeff t ≠ 0) :
    t < L + L' := by
  by_contra hlt
  refine hd ?_
  calc (Λ * S).coeff t
      = (Λ' * (Λ * S)).coeff t := by
        rw [coeff_mul_of_vanishing h'.natDegree_le fun j hj hjt => h.coeff_mul j (by omega) hjt, h'.coeff_zero, one_mul]
    _ = (Λ * (Λ' * S)).coeff t := by rw [mul_left_comm]
    _ = 0 := by
        rw [coeff_mul_of_vanishing h.natDegree_le fun j hj hjt => h'.coeff_mul j (by omega) (by omega),
          h'.coeff_mul t (by omega) (by omega), mul_zero]

/-- What the synthesis keeps from before the last change of length, at round `t` and register length `L`: `Q` is
`x^s · Bp`, and `b` the discrepancy it had (R199). -/
structure Retained (S Q : K[X]) (L t : ℕ) (b : K) : Prop where
  coeff_zero : Q.coeff 0 = 0
  natDegree_le : Q.natDegree ≤ t + 1 - L
  coeff_mul : ∀ j, t + 1 - L ≤ j → j < t → (Q * S).coeff j = 0
  discrepancy : L ≠ 0 → (Q * S).coeff t = b
  ne_zero : b ≠ 0

theorem natDegree_X_mul_le {n : ℕ} (hQ : Q.natDegree ≤ n) : (X * Q).natDegree ≤ n + 1 :=
  natDegree_mul_le.trans (by rw [natDegree_X]; omega)

/-- One more round: `s` grows by 1. -/
theorem Retained.shift (h : Retained S Q L t b) (hlen : L ≤ t) : Retained S (X * Q) L (t + 1) b where
  coeff_zero := coeff_X_mul_zero Q
  natDegree_le := (natDegree_X_mul_le h.natDegree_le).trans (by omega)
  coeff_mul j hj hjt := by
    obtain ⟨i, rfl⟩ : ∃ i, j = i + 1 := ⟨j - 1, by omega⟩
    rw [mul_assoc, coeff_X_mul]
    exact h.coeff_mul i (by omega) (by omega)
  discrepancy hL := by rw [mul_assoc, coeff_X_mul, h.discrepancy hL]
  ne_zero := h.ne_zero

/-- The register that a change of length leaves behind. -/
theorem Generates.retained (h : Generates S Λ L t) (hlen : L ≤ t) (hd : (Λ * S).coeff t ≠ 0) :
    Retained S (X * Λ) (t + 1 - L) (t + 1) ((Λ * S).coeff t) where
  coeff_zero := coeff_X_mul_zero Λ
  natDegree_le := (natDegree_X_mul_le h.natDegree_le).trans (by omega)
  coeff_mul j hj hjt := by
    obtain ⟨i, rfl⟩ : ∃ i, j = i + 1 := ⟨j - 1, by omega⟩
    rw [mul_assoc, coeff_X_mul]
    exact h.coeff_mul i (by omega) (by omega)
  discrepancy _ := by rw [mul_assoc, coeff_X_mul]
  ne_zero := hd

/-- No discrepancy: the register generates one coefficient more. -/
theorem Generates.extend (h : Generates S Λ L t) (hd : (Λ * S).coeff t = 0) : Generates S Λ L (t + 1) :=
  { h with
    coeff_mul := fun j hj hjt => by
      obtain rfl | hlt : j = t ∨ j < t := by omega
      · exact hd
      · exact h.coeff_mul j hj hlt }

/-- The retained polynomial cancels a discrepancy. -/
theorem Generates.correct (h : Generates S Λ L t) (hQ : Retained S Q L t b) :
    Generates S (Λ - C ((Λ * S).coeff t / b) * Q) (max L (t + 1 - L)) (t + 1) where
  coeff_zero := by rw [coeff_sub, coeff_C_mul, hQ.coeff_zero, mul_zero, sub_zero, h.coeff_zero]
  natDegree_le := (natDegree_sub_le _ _).trans
    (max_le_max h.natDegree_le ((natDegree_C_mul_le _ _).trans hQ.natDegree_le))
  coeff_mul j hj hjt := by
    rw [sub_mul, mul_assoc, coeff_sub, coeff_C_mul]
    obtain rfl | hlt : j = t ∨ j < t := by omega
    · rw [hQ.discrepancy (by omega), div_mul_cancel₀ _ hQ.ne_zero, sub_self]
    · rw [h.coeff_mul j (by omega) hlt, hQ.coeff_mul j (by omega) hlt, mul_zero, sub_zero]

/-- The state of Massey's synthesis before round `t`: the register generates what came so far, and no shorter one
does. -/
structure Synthesis (S Λ Q : K[X]) (L t : ℕ) (b : K) : Prop where
  generates : Generates S Λ L t
  minimal : ∀ Λ' L', Generates S Λ' L' t → L ≤ L'
  len_le : L ≤ t
  retained : Retained S Q L t b

theorem synthesis_start (S : K[X]) : Synthesis S 1 X 0 0 1 where
  generates := ⟨coeff_one_zero, natDegree_one.le, fun _ _ h => absurd h (Nat.not_lt_zero _)⟩
  minimal _ _ _ := Nat.zero_le _
  len_le := le_rfl
  retained := ⟨coeff_X_zero, natDegree_X_le, fun _ _ h => absurd h (Nat.not_lt_zero _), fun h => absurd rfl h,
    one_ne_zero⟩

/-- A round without a discrepancy. -/
theorem Synthesis.keep (h : Synthesis S Λ Q L t b) (hd : (Λ * S).coeff t = 0) : Synthesis S Λ (X * Q) L (t + 1) b where
  generates := h.generates.extend hd
  minimal Λ' L' h' := h.minimal Λ' L' h'.mono
  len_le := h.len_le.trans (Nat.le_succ t)
  retained := h.retained.shift h.len_le

/-- A round that corrects the register without a change of length. -/
theorem Synthesis.adjust (h : Synthesis S Λ Q L t b) (hlen : t < 2 * L) :
    Synthesis S (Λ - C ((Λ * S).coeff t / b) * Q) (X * Q) L (t + 1) b where
  generates := by simpa [show max L (t + 1 - L) = L by omega] using h.generates.correct h.retained
  minimal Λ' L' h' := h.minimal Λ' L' h'.mono
  len_le := h.len_le.trans (Nat.le_succ t)
  retained := h.retained.shift h.len_le

/-- A round that corrects the register and changes its length. -/
theorem Synthesis.lengthen (h : Synthesis S Λ Q L t b) (hd : (Λ * S).coeff t ≠ 0) (hlen : 2 * L ≤ t) :
    Synthesis S (Λ - C ((Λ * S).coeff t / b) * Q) (X * Λ) (t + 1 - L) (t + 1) ((Λ * S).coeff t) where
  generates := by simpa [show max L (t + 1 - L) = t + 1 - L by omega] using h.generates.correct h.retained
  minimal Λ' L' h' := by
    have := h.generates.lt_add h' hd
    omega
  len_le := by omega
  retained := h.generates.retained h.len_le hd

end
end

/-! ### What the key equation decides -/

section
variable {K : Type} [Field K] {E : Finset ℕ} {y a : ℕ → K} {S Λ Ω : K[X]} {L r : ℕ}

/-- The locator polynomial of the positions `E` (R199). -/
noncomputable def errorLocator (E : Finset ℕ) (a : ℕ → K) : K[X] := ∏ e ∈ E, (1 - C (a e) * X)

theorem errorLocator_coeff_zero (E : Finset ℕ) (a : ℕ → K) : (errorLocator E a).coeff 0 = 1 := by
  rw [coeff_zero_eq_eval_zero, errorLocator, eval_prod]
  exact Finset.prod_eq_one fun e _ => by simp

theorem errorLocator_ne_zero (E : Finset ℕ) (a : ℕ → K) : errorLocator E a ≠ 0 := by
  intro h
  simpa [h] using errorLocator_coeff_zero E a

theorem natDegree_errorLocator_le (E : Finset ℕ) (a : ℕ → K) : (errorLocator E a).natDegree ≤ E.card := by
  have hfactor (e : ℕ) : (1 - C (a e) * X : K[X]).natDegree ≤ 1 :=
    (natDegree_sub_le _ _).trans
      (max_le (natDegree_one.trans_le zero_le_one) ((natDegree_C_mul_le _ _).trans natDegree_X_le))
  exact (natDegree_prod_le E _).trans ((Finset.sum_le_card_nsmul _ _ 1 fun e _ => hfactor e).trans_eq (by simp))

theorem eval_errorLocator (ha : ∀ e ∈ E, a e ≠ 0) {e : ℕ} (he : e ∈ E) : (errorLocator E a).eval (a e)⁻¹ = 0 := by
  rw [errorLocator, eval_prod]
  exact Finset.prod_eq_zero he (by simp [ha e he])

theorem degree_evaluator_errorLocator_lt : (evaluator E y a (errorLocator E a)).degree < E.card :=
  (degree_evaluator_lt (errorLocator_ne_zero E a)).trans_le
    (degree_le_of_natDegree_le (natDegree_errorLocator_le E a))

theorem evaluator_errorLocator_ne_zero (ha : ∀ e ∈ E, a e ≠ 0) (hinj : Set.InjOn a E) {e : ℕ} (he : e ∈ E)
    (hy : y e ≠ 0) : (evaluator E y a (errorLocator E a)).eval (a e)⁻¹ ≠ 0 := by
  have hroot (e : ℕ) (he : e ∈ E) : (errorLocator E a).eval (a e)⁻¹ = 0 := eval_errorLocator ha he
  rw [eval_evaluator hinj hroot he]
  exact mul_ne_zero hy (eval_derivative_ne_zero (x := fun e => (a e)⁻¹) (errorLocator_ne_zero E a)
    (fun i hi j hj h => hinj hi hj (inv_injective h)) hroot (natDegree_errorLocator_le E a) he)

/-- The locator polynomial generates the syndromes of errors at its positions (R208). -/
theorem generates_errorLocator (ha : ∀ e ∈ E, a e ≠ 0) :
    Generates (powerSums E y a r) (errorLocator E a) E.card r where
  coeff_zero := errorLocator_coeff_zero E a
  natDegree_le := natDegree_errorLocator_le E a
  coeff_mul j hj hjr := by
    have hkey := X_pow_dvd_iff.1 (key_equation (y := y) (r := r) ha fun e => eval_errorLocator ha) j hjr
    have hlow : (evaluator E y a (errorLocator E a)).coeff j = 0 :=
      coeff_eq_zero_of_degree_lt (degree_evaluator_errorLocator_lt.trans_le (Nat.cast_le.2 hj))
    rwa [coeff_add, hlow, add_zero] at hkey

/-- The minimum distance: no error at `r` positions or fewer has all `r` syndromes zero (R208). -/
theorem eq_empty_of_powerSums_eq_zero (ha : ∀ e ∈ E, a e ≠ 0) (hinj : Set.InjOn a E) (hy : ∀ e ∈ E, y e ≠ 0)
    (hcard : E.card ≤ r) (hzero : powerSums E y a r = 0) : E = ∅ := by
  have hkey := key_equation (y := y) (r := r) ha fun e => eval_errorLocator ha
  rw [hzero, mul_zero, zero_add] at hkey
  have hdeg : (evaluator E y a (errorLocator E a)).degree < (X ^ r : K[X]).degree := by
    rw [degree_X_pow]
    exact degree_evaluator_errorLocator_lt.trans_le (Nat.cast_le.2 hcard)
  refine Finset.eq_empty_of_forall_notMem fun e he => ?_
  refine evaluator_errorLocator_ne_zero ha hinj he (hy e he) ?_
  rw [eq_zero_of_dvd_of_degree_lt hkey hdeg, eval_zero]

/-- A register that generates the syndromes of errors has a root at each of them, when its length and their number
together are at most r (R208). -/
theorem eval_eq_zero_of_generates (ha : ∀ e ∈ E, a e ≠ 0) (hinj : Set.InjOn a E) (hy : ∀ e ∈ E, y e ≠ 0)
    (hΛ : Generates (powerSums E y a r) Λ L r) (hΩ : X ^ r ∣ Λ * powerSums E y a r - Ω) (hdeg : Ω.degree < L)
    (hcard : L + E.card ≤ r) {e : ℕ} (he : e ∈ E) : Λ.eval (a e)⁻¹ = 0 := by
  have hkey := key_equation (y := y) (r := r) ha fun e => eval_errorLocator ha
  have hcross : X ^ r ∣ Λ * evaluator E y a (errorLocator E a) + errorLocator E a * Ω := by
    convert (hkey.mul_left Λ).sub (hΩ.mul_left (errorLocator E a)) using 1
    ring
  have hleft : (Λ * evaluator E y a (errorLocator E a)).degree < (L + E.card : ℕ) := by
    rw [degree_mul, Nat.cast_add]
    exact WithBot.add_lt_add_of_le_of_lt (degree_ne_bot.2 hΛ.ne_zero) (degree_le_of_natDegree_le hΛ.natDegree_le)
      degree_evaluator_errorLocator_lt
  have hright : (errorLocator E a * Ω).degree < (L + E.card : ℕ) := by
    rw [degree_mul, Nat.add_comm, Nat.cast_add]
    exact WithBot.add_lt_add_of_le_of_lt (degree_ne_bot.2 (errorLocator_ne_zero E a))
      (degree_le_of_natDegree_le (natDegree_errorLocator_le E a)) hdeg
  have hzero := eq_zero_of_dvd_of_degree_lt hcross (by
    rw [degree_X_pow]
    exact (degree_add_le _ _).trans_lt (max_lt hleft hright) |>.trans_le (Nat.cast_le.2 hcard))
  have heval := congrArg (eval (a e)⁻¹) hzero
  rw [eval_add, eval_mul, eval_mul, eval_errorLocator ha he, zero_mul, add_zero, eval_zero] at heval
  exact (mul_eq_zero.1 heval).resolve_right (evaluator_errorLocator_ne_zero ha hinj he (hy e he))

/-- Forney's values cancel the syndromes, when the register has as many roots as it is long (R204, R210). -/
theorem dvd_add_powerSums (ha : ∀ e ∈ E, a e ≠ 0) (hinj : Set.InjOn a E) (hΛ : Generates S Λ L r)
    (hΩ : X ^ r ∣ Λ * S - Ω) (hdeg : Ω.degree < L) (hcard : E.card = L) (hroot : ∀ e ∈ E, Λ.eval (a e)⁻¹ = 0)
    (hy : ∀ e ∈ E, y e * Λ.derivative.eval (a e)⁻¹ = Ω.eval (a e)⁻¹) : X ^ r ∣ S + powerSums E y a r := by
  have heval : evaluator E y a Λ = Ω := by
    refine eq_of_degrees_lt_of_eval_index_eq E (v := fun e => (a e)⁻¹)
      (fun i hi j hj h => hinj hi hj (inv_injective h)) ?_ (hcard ▸ hdeg) fun e he => ?_
    · rw [hcard]
      exact (degree_evaluator_lt hΛ.ne_zero).trans_le (degree_le_of_natDegree_le hΛ.natDegree_le)
    · rw [eval_evaluator hinj hroot he, hy e he]
  have hsum : X ^ r ∣ Λ * (S + powerSums E y a r) := by
    convert (key_equation (y := y) (r := r) ha hroot).add hΩ using 1
    rw [heval]
    ring
  refine prime_X.pow_dvd_of_dvd_mul_left r ?_ hsum
  rw [X_dvd_iff, hΛ.coeff_zero]
  exact one_ne_zero

end

end Sys2Proof.Machine

/-! The statements of spec/44_reed_solomon.md: the elements of GF(2^m) as a field, and coefficient lists as polynomials
over it (R10, R170, R204). -/

namespace Sys2Proof.Machine

open Polynomial

/-! ### The elements as a field -/

/-- GF(2^m) as a type: the bytes that are elements (R170). -/
@[ext] structure GField.Element (f : GField) where
  byte : Byte
  byte_lt : byte.toNat < 2 ^ f.m

section
variable {f : GField}

/-- The inverse of an element is the quotient of 1 by it, and that of 0 is 0. -/
def elementInv (hok : f.ok = true) (a : f.Element) : f.Element :=
  if a.byte = 0#8 then a else ⟨gfDiv f 1#8 a.byte, gfDiv_lt hok 1#8 a.byte⟩

theorem elementInv_of_eq_zero (hok : f.ok = true) {a : f.Element} (ha0 : a.byte = 0#8) : elementInv hok a = a :=
  if_pos ha0

theorem gfMul_elementInv (hok : f.ok = true) {a : f.Element} (ha0 : a.byte ≠ 0#8) :
    gfMul f a.byte (elementInv hok a).byte = 1#8 := by
  rw [elementInv, if_neg ha0, gfMul_comm, gfMul_gfDiv_cancel hok (toNat_one_lt hok) a.byte_lt ha0]

/-- The field of the elements under XOR and `gfMul` (R170, R174, R175). -/
@[reducible] def elementField (hok : f.ok = true) : Field f.Element :=
  letI : Add f.Element := ⟨fun a b => ⟨a.byte ^^^ b.byte, toNat_xor_lt a.byte_lt b.byte_lt⟩⟩
  letI : Mul f.Element := ⟨fun a b => ⟨gfMul f a.byte b.byte, gfMul_lt hok a.byte_lt b.byte_lt⟩⟩
  letI : Neg f.Element := ⟨id⟩
  letI : Inv f.Element := ⟨elementInv hok⟩
  letI : Zero f.Element := ⟨⟨0#8, Nat.two_pow_pos f.m⟩⟩
  letI : One f.Element := ⟨⟨1#8, toNat_one_lt hok⟩⟩
  Field.ofMinimalAxioms f.Element
    (add_assoc := fun a b c => GField.Element.ext (BitVec.xor_assoc a.byte b.byte c.byte))
    (zero_add := fun _ => GField.Element.ext BitVec.zero_xor)
    (neg_add_cancel := fun _ => GField.Element.ext BitVec.xor_self)
    (mul_assoc := fun a b c => GField.Element.ext (gfMul_assoc hok a.byte_lt b.byte_lt c.byte_lt))
    (mul_comm := fun a b => GField.Element.ext (gfMul_comm f a.byte b.byte))
    (one_mul := fun a => GField.Element.ext (gfMul_one_left hok a.byte_lt))
    (mul_inv_cancel := fun _ ha => GField.Element.ext
      (gfMul_elementInv hok fun hbyte => ha (GField.Element.ext hbyte)))
    (inv_zero := elementInv_of_eq_zero hok rfl)
    (left_distrib := fun a b c => GField.Element.ext (gfMul_xor_right hok a.byte_lt b.byte_lt c.byte_lt))
    (exists_pair_ne := ⟨0, 1, fun h => absurd (congrArg GField.Element.byte h) (show (0#8 : Byte) ≠ 1#8 by decide)⟩)

end

/-- Bytes read as members of a field `K`, so that the operations of the unit on elements are those of `K`. -/
structure FieldView (f : GField) (K : Type) [Field K] where
  /-- What a byte stands for. -/
  val : Byte → K
  /-- The generator of the antilog table (R172). -/
  alpha : K
  val_xor : ∀ a b, val (a ^^^ b) = val a + val b
  val_inj : ∀ a b, a.toNat < 2 ^ f.m → b.toNat < 2 ^ f.m → val a = val b → a = b
  val_one : val 1#8 = 1
  val_gfMul : ∀ a b, a.toNat < 2 ^ f.m → b.toNat < 2 ^ f.m → val (gfMul f a b) = val a * val b
  val_alphaPow : ∀ e, val (alphaPow f e) = alpha ^ e

section
variable {f : GField}

/-- The element that the low m bits of a byte are. -/
def lowElement (f : GField) (v : Byte) : f.Element where
  byte := BitVec.ofNat 8 (v.toNat % 2 ^ f.m)
  byte_lt := (BitVec.toNat_ofNat ..).trans_lt
    ((Nat.mod_le _ _).trans_lt (Nat.mod_lt _ (Nat.two_pow_pos f.m)))

theorem lowElement_byte (v : Byte) : (lowElement f v).byte = BitVec.ofNat 8 (v.toNat % 2 ^ f.m) := rfl

theorem lowElement_of_lt {v : Byte} (hv : v.toNat < 2 ^ f.m) : lowElement f v = ⟨v, hv⟩ := by
  refine GField.Element.ext ?_
  rw [lowElement_byte, Nat.mod_eq_of_lt hv, BitVec.ofNat_toNat, BitVec.setWidth_eq]

theorem lowElement_xor (a b : Byte) :
    (lowElement f (a ^^^ b)).byte = (lowElement f a).byte ^^^ (lowElement f b).byte := by
  simp only [lowElement_byte, BitVec.toNat_xor, Nat.xor_mod_two_pow, BitVec.ofNat_xor]

theorem alphaPow_lt (hok : f.ok = true) (e : Nat) : (alphaPow f e).toNat < 2 ^ f.m := by
  rw [alphaPow_eq_timesXPow hok]
  exact timesXPow_lt hok e (toNat_one_lt hok)

theorem alphaPow_succ (hok : f.ok = true) (e : Nat) : alphaPow f (e + 1) = gfMul f (alphaPow f e) (alphaPow f 1) := by
  have hone := toNat_one_lt hok
  simp only [alphaPow_eq_timesXPow hok]
  rw [gfMul_timesXPow hok e hone (timesXPow_lt hok 1 hone), gfMul_one_left hok (timesXPow_lt hok 1 hone),
    timesXPow_add]

theorem lowElement_alphaPow_succ (hok : f.ok = true) (e : Nat) :
    letI := elementField hok
    lowElement f (alphaPow f (e + 1)) = lowElement f (alphaPow f e) * lowElement f (alphaPow f 1) := by
  rw [alphaPow_succ hok, lowElement_of_lt (gfMul_lt hok (alphaPow_lt hok e) (alphaPow_lt hok 1)),
    lowElement_of_lt (alphaPow_lt hok e), lowElement_of_lt (alphaPow_lt hok 1)]
  rfl

theorem lowElement_alphaPow (hok : f.ok = true) (e : Nat) :
    letI := elementField hok
    lowElement f (alphaPow f e) = lowElement f (alphaPow f 1) ^ e := by
  let := elementField hok
  induction e with
  | zero =>
    rw [pow_zero, alphaPow_eq_timesXPow hok]
    exact lowElement_of_lt (toNat_one_lt hok)
  | succ e ih => rw [pow_succ, ← ih, lowElement_alphaPow_succ hok]

/-- A byte read as the element that its low bits are. -/
def elementView (hok : f.ok = true) : @FieldView f f.Element (elementField hok) :=
  letI := elementField hok
  { val := lowElement f
    alpha := lowElement f (alphaPow f 1)
    val_xor := fun a b => GField.Element.ext (lowElement_xor a b)
    val_inj := fun a b ha hb h => by
      rw [lowElement_of_lt ha, lowElement_of_lt hb] at h
      exact congrArg GField.Element.byte h
    val_one := lowElement_of_lt (toNat_one_lt hok)
    val_gfMul := fun a b ha hb => by
      rw [lowElement_of_lt ha, lowElement_of_lt hb, lowElement_of_lt (gfMul_lt hok ha hb)]
      rfl
    val_alphaPow := lowElement_alphaPow hok }

theorem exists_fieldView (hok : f.ok = true) : ∃ (K : Type) (_ : Field K), Nonempty (FieldView f K) :=
  ⟨f.Element, elementField hok, ⟨elementView hok⟩⟩

end

/-! ### What a byte stands for -/

namespace FieldView

variable {f : GField} {K : Type} [Field K] (V : FieldView f K) {a b : Byte}

@[simp] theorem val_zero : V.val 0#8 = 0 := by
  have h := V.val_xor 0#8 0#8
  rwa [BitVec.xor_self, left_eq_add] at h

include V in
/-- The field has characteristic 2 (R170). -/
theorem add_self (x : K) : x + x = 0 := by
  have htwo : (1 : K) + 1 = 0 := by rw [← V.val_one, ← V.val_xor, BitVec.xor_self, V.val_zero]
  rw [← mul_one x, ← mul_add, htwo, mul_zero]

include V in
theorem charP : CharP K 2 :=
  CharTwo.of_one_ne_zero_of_two_eq_zero one_ne_zero ((one_add_one_eq_two (R := K)).symm.trans (V.add_self 1))

theorem val_eq_zero_iff (ha : a.toNat < 2 ^ f.m) : V.val a = 0 ↔ a = 0#8 := by
  refine ⟨fun h => V.val_inj a 0#8 ha (Nat.two_pow_pos f.m) (h.trans V.val_zero.symm), ?_⟩
  rintro rfl
  exact V.val_zero

theorem val_gfDiv (hok : f.ok = true) (ha : a.toNat < 2 ^ f.m) (hb : b.toNat < 2 ^ f.m) (hb0 : b ≠ 0#8) :
    V.val (gfDiv f a b) = V.val a / V.val b := by
  rw [eq_div_iff (mt (V.val_eq_zero_iff hb).1 hb0), ← V.val_gfMul _ _ (gfDiv_lt hok a b) hb,
    gfMul_gfDiv_cancel hok ha hb hb0]

/-! ### The powers of α -/

theorem alpha_pow_order (hok : f.ok = true) : V.alpha ^ gfOrder f.m = 1 := by
  rw [← V.val_alphaPow, alphaPow_eq_timesXPow hok, timesXPow_order hok, V.val_one]

theorem alpha_ne_zero (hok : f.ok = true) : V.alpha ≠ 0 := by
  intro h
  have hpow := V.alpha_pow_order hok
  rw [h, zero_pow (GField.order_pos hok).ne'] at hpow
  exact zero_ne_one hpow

/-- The positions have different locators (R201). -/
theorem alpha_pow_injOn (hok : f.ok = true) : Set.InjOn (V.alpha ^ ·) (Set.Iio (gfOrder f.m)) := by
  intro i hi j hj h
  refine timesXPow_injOn hok hi hj ?_
  simp only [← alphaPow_eq_timesXPow hok]
  refine V.val_inj _ _ (alphaPow_lt hok i) (alphaPow_lt hok j) ?_
  rw [V.val_alphaPow, V.val_alphaPow]
  exact h

/-- `α^(-e)` is the inverse of the locator of position e (R201). -/
theorem val_alphaNeg (hok : f.ok = true) {e : Nat} (he : e ≤ gfOrder f.m) : V.val (alphaNeg f e) = (V.alpha ^ e)⁻¹ := by
  rw [alphaNeg, V.val_alphaPow, pow_sub₀ _ (V.alpha_ne_zero hok) he, V.alpha_pow_order hok, one_mul]

end FieldView

/-! ### Lists of symbols -/

/-- Every byte of a list is an element: a list of symbols, or the coefficients of a polynomial (R192). -/
abbrev GField.Symbols (f : GField) (p : List Byte) : Prop := ∀ c ∈ p, c.toNat < 2 ^ f.m

section
variable {f : GField} {p q : List Byte} {c v : Byte}

theorem zero_byte_lt (m : Nat) : (0#8 : Byte).toNat < 2 ^ m := Nat.two_pow_pos m

theorem symbols_replicate_zero (f : GField) (n : Nat) : f.Symbols (List.replicate n 0#8) := by
  intro c hc
  rw [List.eq_of_mem_replicate hc]
  exact zero_byte_lt f.m

theorem getD_lt (hp : f.Symbols p) (i : Nat) : (p.getD i 0#8).toNat < 2 ^ f.m := by
  rw [List.getD_eq_getElem?_getD]
  cases hi : p[i]? with
  | none => exact zero_byte_lt f.m
  | some c => exact hp c (List.mem_of_getElem? hi)

theorem symbols_polyAdd (hp : f.Symbols p) (hq : f.Symbols q) : f.Symbols (polyAdd p q) := by
  induction p, q using polyAdd.induct with
  | case1 q => exact hq
  | case2 p hne =>
    cases p with
    | nil => exact (hne rfl).elim
    | cons a p => exact hp
  | case3 a p b q ih =>
    rw [polyAdd, GField.Symbols, List.forall_mem_cons]
    exact ⟨toNat_xor_lt (hp a (by simp)) (hq b (by simp)),
      ih (fun c hc => hp c (List.mem_cons_of_mem a hc)) fun c hc => hq c (List.mem_cons_of_mem b hc)⟩

theorem symbols_polyScale (hok : f.ok = true) (hc : c.toNat < 2 ^ f.m) (hp : f.Symbols p) :
    f.Symbols (polyScale f c p) :=
  List.forall_mem_map.2 fun _ ha => gfMul_lt hok hc (hp _ ha)

theorem symbols_polyShift (k : Nat) (hp : f.Symbols p) : f.Symbols (polyShift k p) :=
  List.forall_mem_append.2 ⟨symbols_replicate_zero f k, hp⟩

theorem symbols_polyMul (hok : f.ok = true) (hp : f.Symbols p) (hq : f.Symbols q) : f.Symbols (polyMul f p q) := by
  induction p with
  | nil => exact List.forall_mem_nil _
  | cons a p ih =>
    rw [GField.Symbols, List.forall_mem_cons] at hp
    exact symbols_polyAdd (symbols_polyScale hok hp.1 hq) (symbols_polyShift 1 (ih hp.2))

theorem polyEval_lt (hok : f.ok = true) (hp : f.Symbols p) (hv : v.toNat < 2 ^ f.m) :
    (polyEval f p v).toNat < 2 ^ f.m := by
  induction p with
  | nil => exact zero_byte_lt f.m
  | cons a p ih =>
    rw [GField.Symbols, List.forall_mem_cons] at hp
    exact toNat_xor_lt hp.1 (gfMul_lt hok (ih hp.2) hv)

end

/-! ### Lists as polynomials -/

namespace FieldView

variable {f : GField} {K : Type} [Field K] (V : FieldView f K) {p q : List Byte} {c v : Byte}

/-- The polynomial that a coefficient list stands for, the coefficient of x^0 first (R10). -/
noncomputable def poly : List Byte → K[X]
  | [] => 0
  | c :: p => C (V.val c) + X * poly p

@[simp] theorem poly_nil : V.poly [] = 0 := rfl

theorem poly_cons (c : Byte) (p : List Byte) : V.poly (c :: p) = C (V.val c) + X * V.poly p := rfl

theorem coeff_poly (p : List Byte) (i : Nat) : (V.poly p).coeff i = V.val (p.getD i 0#8) := by
  induction p generalizing i with
  | nil => simp
  | cons c p ih =>
    cases i with
    | zero => simp [poly_cons]
    | succ i => simp [poly_cons, ih]

theorem coeff_poly_of_le {i : Nat} (hi : p.length ≤ i) : (V.poly p).coeff i = 0 := by
  rw [coeff_poly, List.getD_eq_default _ _ hi, V.val_zero]

theorem coeff_poly_take (p : List Byte) (r i : Nat) :
    (V.poly (p.take r)).coeff i = if i < r then (V.poly p).coeff i else 0 := by
  simp only [coeff_poly, List.getD_eq_getElem?_getD, List.getElem?_take]
  split <;> simp

theorem poly_polyAdd (p q : List Byte) : V.poly (polyAdd p q) = V.poly p + V.poly q := by
  induction p, q using polyAdd.induct with
  | case1 q => simp [polyAdd]
  | case2 p hne => cases p <;> simp [polyAdd]
  | case3 a p b q ih =>
    rw [polyAdd, poly_cons, poly_cons, poly_cons, V.val_xor, C_add, ih]
    ring

theorem poly_append (p q : List Byte) : V.poly (p ++ q) = V.poly p + X ^ p.length * V.poly q := by
  induction p with
  | nil => simp
  | cons c p ih =>
    rw [List.cons_append, poly_cons, poly_cons, ih, List.length_cons]
    ring

theorem poly_replicate_zero (n : Nat) : V.poly (List.replicate n 0#8) = 0 := by
  induction n with
  | zero => rfl
  | succ n ih => rw [List.replicate_succ, poly_cons, ih, V.val_zero, C_0, mul_zero, add_zero]

theorem poly_polyShift (k : Nat) (p : List Byte) : V.poly (polyShift k p) = X ^ k * V.poly p := by
  rw [polyShift, poly_append, poly_replicate_zero, List.length_replicate, zero_add]

theorem poly_polyScale (hc : c.toNat < 2 ^ f.m) (hp : f.Symbols p) :
    V.poly (polyScale f c p) = C (V.val c) * V.poly p := by
  induction p with
  | nil => exact (mul_zero _).symm
  | cons a p ih =>
    rw [GField.Symbols, List.forall_mem_cons] at hp
    rw [polyScale, List.map_cons, ← polyScale, poly_cons, poly_cons, ih hp.2, V.val_gfMul _ _ hc hp.1, C_mul]
    ring

theorem poly_polyMul (hp : f.Symbols p) (hq : f.Symbols q) :
    V.poly (polyMul f p q) = V.poly p * V.poly q := by
  induction p with
  | nil => exact (zero_mul _).symm
  | cons a p ih =>
    rw [GField.Symbols, List.forall_mem_cons] at hp
    rw [polyMul, poly_polyAdd, V.poly_polyScale hp.1 hq, poly_polyShift, ih hp.2, poly_cons]
    ring

theorem val_polyEval (hok : f.ok = true) (hp : f.Symbols p) (hv : v.toNat < 2 ^ f.m) :
    V.val (polyEval f p v) = (V.poly p).eval (V.val v) := by
  induction p with
  | nil => exact V.val_zero.trans eval_zero.symm
  | cons a p ih =>
    rw [GField.Symbols, List.forall_mem_cons] at hp
    have hcons : polyEval f (a :: p) v = a ^^^ gfMul f (polyEval f p v) v := rfl
    rw [hcons, V.val_xor, V.val_gfMul _ _ (polyEval_lt hok hp.2 hv) hv, ih hp.2, poly_cons, eval_add, eval_C,
      eval_mul, eval_X, mul_comm]

theorem polyEval_eq_zero_iff (hok : f.ok = true) (hp : f.Symbols p) (hv : v.toNat < 2 ^ f.m) :
    polyEval f p v = 0#8 ↔ (V.poly p).eval (V.val v) = 0 := by
  rw [← V.val_polyEval hok hp hv, V.val_eq_zero_iff (polyEval_lt hok hp hv)]

theorem poly_eq_zero_iff (hp : f.Symbols p) : V.poly p = 0 ↔ p.all (· == 0#8) = true := by
  induction p with
  | nil => simp
  | cons a p ih =>
    rw [GField.Symbols, List.forall_mem_cons] at hp
    rw [List.all_cons, Bool.and_eq_true, beq_iff_eq, ← ih hp.2, ← V.val_eq_zero_iff hp.1, poly_cons]
    constructor
    · intro h
      have hval : V.val a = 0 := by simpa using congrArg (coeff · 0) h
      rw [hval, C_0, zero_add] at h
      exact ⟨hval, (mul_eq_zero.1 h).resolve_left X_ne_zero⟩
    · rintro ⟨ha, hp⟩
      rw [ha, hp, C_0, mul_zero, add_zero]

/-- The degree of R10 is that of the polynomial. -/
theorem polyDeg_eq_natDegree (hp : f.Symbols p) : polyDeg p = (V.poly p).natDegree := by
  induction p with
  | nil => exact natDegree_zero.symm
  | cons a p ih =>
    rw [GField.Symbols, List.forall_mem_cons] at hp
    rw [polyDeg, poly_cons, natDegree_C_add]
    split
    case isTrue hzero => rw [(V.poly_eq_zero_iff hp.2).2 hzero, mul_zero, natDegree_zero]
    case isFalse hne => rw [natDegree_X_mul (mt (V.poly_eq_zero_iff hp.2).1 hne), ih hp.2]

theorem symbols_polyDeriv (hp : f.Symbols p) : f.Symbols (polyDeriv p) := by
  refine List.forall_mem_map.2 fun j _ => ?_
  split
  · exact getD_lt hp _
  · exact zero_byte_lt f.m

include V in
/-- An even factor vanishes and an odd one is 1. -/
theorem natCast_succ_eq_ite (j : Nat) : ((j : K) + 1) = if j % 2 = 0 then 1 else 0 := by
  have := V.charP
  obtain hj | hj := Nat.mod_two_eq_zero_or_one j
  · rw [← Nat.cast_succ, CharTwo.natCast_eq_mod, if_pos hj, show j.succ % 2 = 1 by omega, Nat.cast_one]
  · rw [← Nat.cast_succ, CharTwo.natCast_eq_mod, if_neg (by omega), show j.succ % 2 = 0 by omega, Nat.cast_zero]

/-- `Λ'` of R204 is the derivative. -/
theorem poly_polyDeriv (hp : f.Symbols p) : V.poly (polyDeriv p) = (V.poly p).derivative := by
  ext j
  rw [coeff_poly, coeff_derivative, coeff_poly, V.natCast_succ_eq_ite, mul_ite, mul_one, mul_zero, polyDeriv]
  obtain hlt | hge := Nat.lt_or_ge j (polyDeg p)
  · rw [List.getD_eq_getElem?_getD, List.getElem?_map, List.getElem?_range hlt]
    simp only [Option.map_some, Option.getD_some]
    split
    · rfl
    · exact V.val_zero
  · have htop : V.val (p.getD (j + 1) 0#8) = 0 := by
      rw [← coeff_poly]
      exact coeff_eq_zero_of_natDegree_lt (by rw [← V.polyDeg_eq_natDegree hp]; omega)
    rw [List.getD_eq_default _ _ (by simpa using hge), V.val_zero, htop, ite_self]

end FieldView

end Sys2Proof.Machine

/-! The statements of spec/44_reed_solomon.md: blocks, the generator polynomial and the feedback shift register
(R193 to R196). -/

namespace Sys2Proof.Machine

open Polynomial

/-! ### Blocks as polynomials -/

section
variable {f : GField} {r : Nat} {block data g rem : List Byte} {d : Byte}

/-- Horner's rule over a block is Horner's rule over its coefficient list (R193, R198). -/
theorem blockEval_eq_polyEval (f : GField) (block : List Byte) (v : Byte) :
    blockEval f block v = polyEval f block.reverse v := by
  simp only [polyEval, List.foldr_reverse, blockEval, BitVec.xor_comm]

theorem symbols_reverse (hblock : f.Symbols block) : f.Symbols block.reverse :=
  fun c hc => hblock c (List.mem_reverse.1 hc)

/-! ### The generator polynomial -/

theorem symbols_rsGenerator (hok : f.ok = true) (r : Nat) : f.Symbols (rsGenerator f r) := by
  induction r with
  | zero => exact List.forall_mem_singleton.2 (toNat_one_lt hok)
  | succ r ih =>
    refine symbols_polyMul hok ih ?_
    simpa [GField.Symbols] using And.intro (alphaPow_lt hok (r + 1)) (toNat_one_lt hok)

theorem length_polyMul_cons (f : GField) (a : Byte) (p : List Byte) {q : List Byte} (hq : 0 < q.length) :
    (polyMul f (a :: p) q).length = p.length + q.length := by
  induction p generalizing a with
  | nil =>
    rw [polyMul, length_polyAdd, polyMul, polyShift, polyScale, List.length_map, List.append_nil, List.length_replicate,
      List.length_nil, max_eq_left hq, Nat.zero_add]
  | cons b p ih =>
    rw [polyMul, length_polyAdd, polyShift, List.length_append, ih b, polyScale, List.length_map,
      List.length_replicate, List.length_cons]
    omega

theorem length_rsGenerator (f : GField) (r : Nat) : (rsGenerator f r).length = r + 1 := by
  induction r with
  | zero => rfl
  | succ r ih =>
    obtain ⟨a, p, hp⟩ := List.exists_cons_of_length_eq_add_one ih
    have hlen : p.length = r := by simpa [hp] using ih
    rw [rsGenerator, hp, length_polyMul_cons f a p (by simp), hlen, List.length_cons, List.length_singleton]

/-! ### The feedback shift register -/

theorem getLastD_lt (hrem : f.Symbols rem) : (rem.getLastD 0#8).toNat < 2 ^ f.m := by
  rw [List.getLastD_eq_getLast?, List.getLast?_eq_getElem?, ← List.getD_eq_getElem?_getD]
  exact getD_lt hrem _

theorem symbols_lfsrStep (hok : f.ok = true) (hg : f.Symbols g) (hrem : f.Symbols rem) (hd : d.toNat < 2 ^ f.m) :
    f.Symbols (lfsrStep f g rem d) :=
  symbols_polyAdd (List.forall_mem_cons.2 ⟨zero_byte_lt f.m, fun c hc => hrem c (List.mem_of_mem_dropLast hc)⟩)
    (symbols_polyScale hok (toNat_xor_lt hd (getLastD_lt hrem)) fun c hc => hg c (List.mem_of_mem_take hc))

theorem symbols_foldl_lfsrStep (hok : f.ok = true) (hg : f.Symbols g) (hrem : f.Symbols rem) (hdata : f.Symbols data) :
    f.Symbols (data.foldl (lfsrStep f g) rem) := by
  induction data generalizing rem with
  | nil => exact hrem
  | cons d data ih =>
    rw [GField.Symbols, List.forall_mem_cons] at hdata
    exact ih (symbols_lfsrStep hok hg hrem hdata.1) hdata.2

/-- The register has r places throughout (R196). -/
theorem length_register (f : GField) (data : List Byte) (hr : 0 < r) :
    (data.foldl (lfsrStep f (rsGenerator f r)) (List.replicate r 0#8)).length = r := by
  rw [length_foldl_lfsrStep _ _ _ _ (by rwa [List.length_replicate]), List.length_replicate]

theorem symbols_rsParity (hok : f.ok = true) (hdata : f.Symbols data) : f.Symbols (rsParity f r data) :=
  symbols_reverse (symbols_foldl_lfsrStep hok (symbols_rsGenerator hok r) (symbols_replicate_zero f r) hdata)

end

namespace FieldView

variable {f : GField} {K : Type} [Field K] (V : FieldView f K) {r : Nat} {block data g rem : List Byte} {d : Byte}

/-- `B(x)`: the first symbol is the coefficient of the highest degree (R193). -/
noncomputable def blockPoly (block : List Byte) : K[X] := V.poly block.reverse

/-- A codeword has the roots α^1, ..., α^r (R198). -/
theorem isCodeword_iff (hok : f.ok = true) (hblock : f.Symbols block) :
    isCodeword f r block = true ↔ ∀ i, i < r → (V.blockPoly block).eval (V.alpha ^ (i + 1)) = 0 := by
  simp only [isCodeword, List.all_eq_true, List.mem_range, beq_iff_eq]
  refine forall₂_congr fun i _ => ?_
  rw [blockEval_eq_polyEval, V.polyEval_eq_zero_iff hok (symbols_reverse hblock) (alphaPow_lt hok (i + 1)),
    V.val_alphaPow, blockPoly]

theorem blockPoly_append_singleton (data : List Byte) (d : Byte) :
    V.blockPoly (data ++ [d]) = C (V.val d) + X * V.blockPoly data := by
  rw [blockPoly, List.reverse_append, List.reverse_singleton, List.singleton_append, poly_cons, blockPoly]

theorem poly_rsGenerator_succ (hok : f.ok = true) (r : Nat) :
    V.poly (rsGenerator f (r + 1)) = V.poly (rsGenerator f r) * (X + C (V.alpha ^ (r + 1))) := by
  have hfactor : f.Symbols [alphaPow f (r + 1), 1#8] := by
    simpa [GField.Symbols] using And.intro (alphaPow_lt hok (r + 1)) (toNat_one_lt hok)
  rw [rsGenerator, V.poly_polyMul (symbols_rsGenerator hok r) hfactor, poly_cons, poly_cons, poly_nil, V.val_alphaPow,
    V.val_one, C_1]
  ring

/-- The generator polynomial is monic of degree r (R195). -/
theorem coeff_rsGenerator (hok : f.ok = true) (r : Nat) : (V.poly (rsGenerator f r)).coeff r = 1 := by
  induction r with
  | zero => rw [coeff_poly, rsGenerator, List.getD_cons_zero, V.val_one]
  | succ r ih =>
    rw [V.poly_rsGenerator_succ hok, mul_add, coeff_add, coeff_mul_X, ih, coeff_mul_C,
      V.coeff_poly_of_le (length_rsGenerator f r).le, zero_mul, add_zero]

/-- Its roots are α^1, ..., α^r (R195). -/
theorem eval_rsGenerator (hok : f.ok = true) {i r : Nat} (hi : i < r) :
    (V.poly (rsGenerator f r)).eval (V.alpha ^ (i + 1)) = 0 := by
  induction r with
  | zero => exact absurd hi (Nat.not_lt_zero i)
  | succ r ih =>
    rw [V.poly_rsGenerator_succ hok, eval_mul, eval_add, eval_X, eval_C]
    obtain rfl | hlt : i = r ∨ i < r := by omega
    · rw [V.add_self, mul_zero]
    · rw [ih hlt, zero_mul]

/-- The register is fed by the generator without its leading coefficient (R196). -/
theorem poly_eq_poly_take_add {n : Nat} (hlen : g.length = n + 1) (hmonic : (V.poly g).coeff n = 1) :
    V.poly g = V.poly (g.take n) + X ^ n := by
  ext i
  rw [coeff_add, coeff_poly_take, coeff_X_pow]
  obtain hlt | rfl | hgt := Nat.lt_trichotomy i n
  · rw [if_pos hlt, if_neg hlt.ne, add_zero]
  · rw [if_neg (lt_irrefl i), if_pos rfl, hmonic, zero_add]
  · rw [if_neg hgt.asymm, if_neg hgt.ne', V.coeff_poly_of_le (by omega), add_zero]

/-- One symbol through the register: `x · rem + d · x^r`, reduced by a multiple of g (R196). -/
theorem poly_lfsrStep (hg : f.Symbols g) (hlen : g.length = rem.length + 1)
    (hmonic : (V.poly g).coeff rem.length = 1) (hrem : f.Symbols rem) (hpos : 0 < rem.length)
    (hd : d.toNat < 2 ^ f.m) :
    V.poly (lfsrStep f g rem d) + C (V.val d) * X ^ rem.length =
      X * V.poly rem + C (V.val (d ^^^ rem.getLastD 0#8)) * V.poly g := by
  have hfeedback := toNat_xor_lt hd (getLastD_lt hrem)
  have htop : V.poly rem = V.poly rem.dropLast + C (V.val (rem.getLastD 0#8)) * X ^ (rem.length - 1) := by
    obtain rfl | ⟨init, a, rfl⟩ := List.eq_nil_or_concat rem
    · exact absurd hpos (lt_irrefl 0)
    · rw [List.concat_eq_append, poly_append, poly_cons, poly_nil]
      simp only [List.dropLast_concat, List.getLastD_concat, List.length_append, List.length_singleton,
        Nat.add_sub_cancel]
      ring
  have hpow : (X : K[X]) ^ rem.length = X * X ^ (rem.length - 1) := by
    rw [← pow_succ', Nat.sub_add_cancel hpos]
  have hcancel : C (V.val (rem.getLastD 0#8)) + C (V.val (rem.getLastD 0#8)) = (0 : K[X]) := by
    rw [← C_add, V.add_self, C_0]
  rw [lfsrStep, poly_polyAdd, V.poly_polyScale hfeedback fun c hc => hg c (List.mem_of_mem_take hc), poly_cons,
    V.val_zero, V.poly_eq_poly_take_add hlen hmonic, htop, V.val_xor, hpow]
  simp only [C_add, C_0]
  linear_combination -(X * X ^ (rem.length - 1)) * hcancel

/-- The register holds `D(x) · x^r` modulo g (R196). -/
theorem dvd_register (hok : f.ok = true) (hdata : f.Symbols data) (hr : 0 < r) :
    V.poly (rsGenerator f r) ∣
      V.poly (data.foldl (lfsrStep f (rsGenerator f r)) (List.replicate r 0#8)) + X ^ r * V.blockPoly data := by
  induction data using List.reverseRecOn with
  | nil => simp [blockPoly, poly_replicate_zero]
  | append_singleton data d ih =>
    rw [GField.Symbols, List.forall_mem_append, List.forall_mem_singleton] at hdata
    have hg := symbols_rsGenerator hok r
    have hregister := symbols_foldl_lfsrStep hok hg (symbols_replicate_zero f r) hdata.1
    have hlen := length_register f data hr
    have hstep := V.poly_lfsrStep hg (by rw [hlen, length_rsGenerator]) (by rw [hlen, V.coeff_rsGenerator hok])
      hregister (by omega) hdata.2
    rw [hlen] at hstep
    have hsum := ((ih hdata.1).mul_left X).add (dvd_mul_left (V.poly (rsGenerator f r))
      (C (V.val (d ^^^ (data.foldl (lfsrStep f (rsGenerator f r)) (List.replicate r 0#8)).getLastD 0#8))))
    convert hsum using 1
    rw [List.foldl_append, List.foldl_cons, List.foldl_nil, blockPoly_append_singleton]
    linear_combination hstep

/-- Data followed by its parity is a multiple of g (R196). -/
theorem dvd_blockPoly_append_rsParity (hok : f.ok = true) (hdata : f.Symbols data) (hr : 0 < r) :
    V.poly (rsGenerator f r) ∣ V.blockPoly (data ++ rsParity f r data) := by
  rw [blockPoly, List.reverse_append, rsParity, List.reverse_reverse, poly_append, length_register f data hr]
  exact V.dvd_register hok hdata hr

end FieldView

/-- Settles O35: the parity makes the block a multiple of the generator polynomial, whose roots are those of R198. -/
theorem rsParityMakesCodewords : Obligations.RsParityMakesCodewords := by
  intro f k r data hok hconfig _ hdata
  obtain ⟨-, -, hr, -⟩ := (rsConfigOk_iff ..).1 hconfig
  have hparity := symbols_rsParity (r := r) hok hdata
  obtain ⟨K, _, ⟨V⟩⟩ := exists_fieldView hok
  refine ⟨length_rsParity f data hr, hparity, ?_⟩
  rw [V.isCodeword_iff hok (List.forall_mem_append.2 ⟨hdata, hparity⟩)]
  exact fun i hi => eval_eq_zero_of_dvd_of_eval_eq_zero (V.dvd_blockPoly_append_rsParity hok hdata hr)
    (V.eval_rsGenerator hok hi)

end Sys2Proof.Machine

/-! The statements of spec/44_reed_solomon.md: the loop of R199 as a synthesis, the decoder's checks and correction
(R200 to R206), and its two laws (R208, R210). -/

namespace Sys2Proof.Machine

open Polynomial

/-! ### The Berlekamp-Massey loop -/

section
variable {f : GField} {syn : List Byte} {v : BmState} {r t : Nat} {block : List Byte}

theorem foldl_xor_lt {m : Nat} {g : Nat → Byte} {c : Byte} (hc : c.toNat < 2 ^ m) (hg : ∀ i, (g i).toNat < 2 ^ m)
    (n : Nat) : ((List.range n).foldl (fun acc i => acc ^^^ g i) c).toNat < 2 ^ m := by
  induction n with
  | zero => exact hc
  | succ n ih =>
    rw [List.range_succ, List.foldl_append]
    exact toNat_xor_lt ih (hg n)

theorem bmDiscrepancy_lt (hok : f.ok = true) (hsyn : f.Symbols syn) (hlam : f.Symbols v.lam) (t : Nat) :
    (bmDiscrepancy f syn t v).toNat < 2 ^ f.m :=
  foldl_xor_lt (getD_lt hsyn t) (fun _ => gfMul_lt hok (getD_lt hlam _) (getD_lt hsyn _)) v.len

/-- A round without a discrepancy (R199). -/
theorem bmRound_of_eq_zero (hd : bmDiscrepancy f syn t v = 0#8) :
    bmRound f syn v t = { v with shift := v.shift + 1 } := if_pos hd

/-- The register that a round with a discrepancy leaves (R199). -/
def bmCorrected (f : GField) (syn : List Byte) (v : BmState) (t : Nat) : List Byte :=
  polyAdd v.lam (polyScale f (gfDiv f (bmDiscrepancy f syn t v) v.b) (polyShift v.shift v.bp))

theorem bmRound_of_le (hd : bmDiscrepancy f syn t v ≠ 0#8) (hlen : 2 * v.len ≤ t) :
    bmRound f syn v t =
      { lam := bmCorrected f syn v t, bp := v.lam, len := t + 1 - v.len, shift := 1, b := bmDiscrepancy f syn t v } :=
  (if_neg hd).trans (if_pos hlen)

theorem bmRound_of_lt (hd : bmDiscrepancy f syn t v ≠ 0#8) (hlen : t < 2 * v.len) :
    bmRound f syn v t = { v with lam := bmCorrected f syn v t, shift := v.shift + 1 } :=
  (if_neg hd).trans (if_neg (Nat.not_le.2 hlen))

theorem symbols_bmCorrected (hok : f.ok = true) (hlam : f.Symbols v.lam) (hbp : f.Symbols v.bp) :
    f.Symbols (bmCorrected f syn v t) :=
  symbols_polyAdd hlam (symbols_polyScale hok (gfDiv_lt hok _ _) (symbols_polyShift v.shift hbp))

theorem length_syndromes (f : GField) (r : Nat) (block : List Byte) : (syndromes f r block).length = r := by
  rw [syndromes, List.length_map, List.length_range]

theorem symbols_syndromes (hok : f.ok = true) (hblock : f.Symbols block) : f.Symbols (syndromes f r block) := by
  refine List.forall_mem_map.2 fun i _ => ?_
  rw [blockEval_eq_polyEval]
  exact polyEval_lt hok (symbols_reverse hblock) (alphaPow_lt hok (i + 1))

end

section
variable {K : Type} [Field K] {S Λ : K[X]} {L t : ℕ}

/-- The discrepancy of R199 is a coefficient of the product. -/
theorem Generates.coeff_mul_eq_sum (h : Generates S Λ L t) (hlen : L ≤ t) :
    (Λ * S).coeff t = S.coeff t + ∑ i ∈ Finset.range L, Λ.coeff (i + 1) * S.coeff (t - (i + 1)) := by
  have hterm (i : ℕ) (hi : L ≤ i) : Λ.coeff (i + 1) * S.coeff (t - (i + 1)) = 0 := by
    rw [coeff_eq_zero_of_natDegree_lt (h.natDegree_le.trans_lt (by omega)), zero_mul]
  rw [Polynomial.coeff_mul, Finset.Nat.sum_antidiagonal_eq_sum_range_succ fun i j => Λ.coeff i * S.coeff j,
    Finset.sum_range_succ', h.coeff_zero, one_mul, Nat.sub_zero, add_comm, Finset.sum_subset (Finset.range_mono hlen)]
  exact fun i _ hi => hterm i (Nat.le_of_not_lt (mt Finset.mem_range.2 hi))

/-- The evaluator of R203 is `Λ · S` modulo `x^r`, and its degree is below the length of the register. -/
theorem Generates.degree_lt {Ω : K[X]} {r : ℕ} (h : Generates S Λ L r)
    (hΩ : ∀ j, Ω.coeff j = if j < r then (Λ * S).coeff j else 0) : Ω.degree < L := by
  rw [degree_lt_iff_coeff_zero]
  intro j hj
  rw [hΩ]
  split
  · exact h.coeff_mul j hj ‹_›
  · rfl

end

/-- What the loop keeps before round `t` (R199): coefficient lists of symbols, in which the synthesis stands. -/
structure BmInv {f : GField} {K : Type} [Field K] (V : FieldView f K) (syn : List Byte) (t : Nat) (v : BmState) :
    Prop where
  symbols_lam : f.Symbols v.lam
  symbols_bp : f.Symbols v.bp
  b_lt : v.b.toNat < 2 ^ f.m
  synthesis : Synthesis (V.poly syn) (V.poly v.lam) (X ^ v.shift * V.poly v.bp) v.len t (V.val v.b)

namespace FieldView

variable {f : GField} {K : Type} [Field K] (V : FieldView f K) {syn : List Byte} {v : BmState} {t : Nat}

theorem val_foldl_xor (g : Nat → Byte) (c : Byte) (n : Nat) :
    V.val ((List.range n).foldl (fun acc i => acc ^^^ g i) c) = V.val c + ∑ i ∈ Finset.range n, V.val (g i) := by
  induction n with
  | zero => simp
  | succ n ih =>
    rw [List.range_succ, List.foldl_append, List.foldl_cons, List.foldl_nil, V.val_xor, ih, Finset.sum_range_succ,
      add_assoc]

theorem val_bmDiscrepancy (hsyn : f.Symbols syn) (h : BmInv V syn t v) :
    V.val (bmDiscrepancy f syn t v) = (V.poly v.lam * V.poly syn).coeff t := by
  rw [bmDiscrepancy, val_foldl_xor, h.synthesis.generates.coeff_mul_eq_sum h.synthesis.len_le]
  simp only [coeff_poly, V.val_gfMul _ _ (getD_lt h.symbols_lam _) (getD_lt hsyn _)]

theorem poly_bmCorrected (hok : f.ok = true) (hsyn : f.Symbols syn) (h : BmInv V syn t v) :
    V.poly (bmCorrected f syn v t) =
      V.poly v.lam - C ((V.poly v.lam * V.poly syn).coeff t / V.val v.b) * (X ^ v.shift * V.poly v.bp) := by
  have := V.charP
  have hb0 : v.b ≠ 0#8 := mt (V.val_eq_zero_iff h.b_lt).2 h.synthesis.retained.ne_zero
  rw [bmCorrected, poly_polyAdd, V.poly_polyScale (gfDiv_lt hok _ _) (symbols_polyShift _ h.symbols_bp),
    V.val_gfDiv hok (bmDiscrepancy_lt hok hsyn h.symbols_lam t) h.b_lt hb0, poly_polyShift,
    V.val_bmDiscrepancy hsyn h, CharTwo.sub_eq_add]

theorem bmInv_bmRound (hok : f.ok = true) (hsyn : f.Symbols syn) (h : BmInv V syn t v) :
    BmInv V syn (t + 1) (bmRound f syn v t) := by
  have hdisc := V.val_bmDiscrepancy hsyn h
  have hdlt := bmDiscrepancy_lt (t := t) hok hsyn h.symbols_lam
  have hcorrected := symbols_bmCorrected (syn := syn) (t := t) hok h.symbols_lam h.symbols_bp
  have hshift : X ^ (v.shift + 1) * V.poly v.bp = X * (X ^ v.shift * V.poly v.bp) := by ring
  by_cases hd : bmDiscrepancy f syn t v = 0#8
  case pos =>
    rw [bmRound_of_eq_zero hd]
    refine ⟨h.symbols_lam, h.symbols_bp, h.b_lt, ?_⟩
    rw [hshift]
    exact h.synthesis.keep (by rw [← hdisc, hd, V.val_zero])
  case neg =>
    obtain hlen | hlen := Nat.lt_or_ge t (2 * v.len)
    · rw [bmRound_of_lt hd hlen]
      refine ⟨hcorrected, h.symbols_bp, h.b_lt, ?_⟩
      rw [hshift, V.poly_bmCorrected hok hsyn h]
      exact h.synthesis.adjust hlen
    · rw [bmRound_of_le hd hlen]
      refine ⟨hcorrected, h.symbols_lam, hdlt, ?_⟩
      rw [pow_one, V.poly_bmCorrected hok hsyn h, hdisc]
      exact h.synthesis.lengthen (by rwa [← hdisc, ne_eq, V.val_eq_zero_iff hdlt]) hlen

theorem bmInv_start (hok : f.ok = true) (syn : List Byte) :
    BmInv V syn 0 { lam := [1#8], bp := [1#8], len := 0, shift := 1, b := 1#8 } := by
  have hone : f.Symbols [1#8] := List.forall_mem_singleton.2 (toNat_one_lt hok)
  have hpoly : V.poly [1#8] = 1 := by rw [poly_cons, poly_nil, V.val_one, mul_zero, add_zero, C_1]
  refine ⟨hone, hone, toNat_one_lt hok, ?_⟩
  rw [hpoly, pow_one, mul_one, V.val_one]
  exact synthesis_start _

/-- The loop ends with a shortest register that generates the syndromes (R199). -/
theorem bmInv_berlekampMassey (hok : f.ok = true) (hsyn : f.Symbols syn) :
    BmInv V syn syn.length (berlekampMassey f syn) := by
  have hrounds (n : Nat) : BmInv V syn n ((List.range n).foldl (bmRound f syn)
      { lam := [1#8], bp := [1#8], len := 0, shift := 1, b := 1#8 }) := by
    induction n with
    | zero => exact V.bmInv_start hok syn
    | succ n ih =>
      rw [List.range_succ, List.foldl_append]
      exact V.bmInv_bmRound hok hsyn ih
  exact hrounds syn.length

end FieldView

/-! ### The cases of the decoder -/

section
variable {f : GField} {r e : Nat} {block lam omega : List Byte} {positions : List Nat}

/-- All syndromes zero is what a codeword is (R198). -/
theorem syndromes_all_zero_iff (f : GField) (r : Nat) (block : List Byte) :
    (syndromes f r block).all (· == 0#8) = isCodeword f r block := by
  rw [syndromes, List.all_map, isCodeword]
  rfl

/-- The register at the end of the loop, for the block's syndromes (R199). -/
def rsRegister (f : GField) (r : Nat) (block : List Byte) : BmState := berlekampMassey f (syndromes f r block)

/-- The located positions (R201). -/
def rsPositions (f : GField) (r : Nat) (block : List Byte) : List Nat := chienSearch f (rsRegister f r block).lam

/-- The block that the positions and Forney's values give (R205). -/
def rsCorrected (f : GField) (r : Nat) (block : List Byte) : List Byte :=
  forneyCorrect f (rsRegister f r block).lam (errorEvaluator f r (syndromes f r block) (rsRegister f r block).lam)
    (rsPositions f r block) block

/-- The first check of R202 passes: as many positions as the degree of Λ, which is the length of the register. -/
structure Located (f : GField) (r : Nat) (block : List Byte) : Prop where
  length_eq : (rsPositions f r block).length = polyDeg (rsRegister f r block).lam
  deg_eq : polyDeg (rsRegister f r block).lam = (rsRegister f r block).len

/-- The decoder in terms of the register, the positions and the corrected block (R202). -/
theorem rsDecode_eq (f : GField) (r : Nat) (block : List Byte) :
    rsDecode f r block =
      if (syndromes f r block).all (· == 0#8) then .clean
      else if (rsPositions f r block).length ≠ polyDeg (rsRegister f r block).lam ∨
        polyDeg (rsRegister f r block).lam ≠ (rsRegister f r block).len then
        .uncorrectable .roots (rsRegister f r block).len (polyDeg (rsRegister f r block).lam)
      else if (rsPositions f r block).any fun e => decide (block.length ≤ e) then
        .uncorrectable .pad (rsRegister f r block).len (polyDeg (rsRegister f r block).lam)
      else if (rsPositions f r block).any fun e =>
          polyEval f (polyDeriv (rsRegister f r block).lam) (alphaNeg f e) == 0#8 then
        .uncorrectable .forney (rsRegister f r block).len (polyDeg (rsRegister f r block).lam)
      else .corrected (rsCorrected f r block) (rsRegister f r block).len (polyDeg (rsRegister f r block).lam) := rfl

/-- What the decoder can find, check by check (R202, R206). -/
theorem rsDecode_cases (f : GField) (r : Nat) (block : List Byte) :
    ((syndromes f r block).all (· == 0#8) = true ∧ rsDecode f r block = .clean) ∨
    (¬ Located f r block ∧ ∃ len deg, rsDecode f r block = .uncorrectable .roots len deg) ∨
    (Located f r block ∧ (∃ e ∈ rsPositions f r block, block.length ≤ e) ∧
      ∃ len deg, rsDecode f r block = .uncorrectable .pad len deg) ∨
    (Located f r block ∧
      (∃ e ∈ rsPositions f r block, polyEval f (polyDeriv (rsRegister f r block).lam) (alphaNeg f e) = 0#8) ∧
      ∃ len deg, rsDecode f r block = .uncorrectable .forney len deg) ∨
    (Located f r block ∧ (∀ e ∈ rsPositions f r block, e < block.length) ∧
      rsDecode f r block = .corrected (rsCorrected f r block) (rsRegister f r block).len
        (polyDeg (rsRegister f r block).lam)) := by
  rw [rsDecode_eq]
  split_ifs with hclean hroots hpad hforney
  · exact .inl ⟨hclean, rfl⟩
  · refine .inr (.inl ⟨fun h => ?_, _, _, rfl⟩)
    exact hroots.elim (· h.length_eq) (· h.deg_eq)
  all_goals
    rw [not_or, not_not, not_not] at hroots
    have hlocated : Located f r block := ⟨hroots.1, hroots.2⟩
    simp only [List.any_eq_true, decide_eq_true_eq] at hpad
  · exact .inr (.inr (.inl ⟨hlocated, hpad, _, _, rfl⟩))
  · simp only [List.any_eq_true, beq_iff_eq] at hforney
    exact .inr (.inr (.inr (.inl ⟨hlocated, hforney, _, _, rfl⟩)))
  · exact .inr (.inr (.inr (.inr ⟨hlocated, fun e he => Nat.lt_of_not_le fun hle => hpad ⟨e, he, hle⟩, rfl⟩)))

theorem alphaNeg_lt (hok : f.ok = true) (e : Nat) : (alphaNeg f e).toNat < 2 ^ f.m := alphaPow_lt hok _

theorem nodup_rsPositions : (rsPositions f r block).Nodup := List.nodup_range.filter _

/-! ### Forney's values -/

/-- The value added at position e (R204). -/
def forneyValue (f : GField) (lam omega : List Byte) (e : Nat) : Byte :=
  gfDiv f (polyEval f omega (alphaNeg f e)) (polyEval f (polyDeriv lam) (alphaNeg f e))

theorem getElem?_forneyCorrect (j : Nat) :
    (forneyCorrect f lam omega positions block)[j]? = block[j]?.map fun c =>
      if block.length - 1 - j ∈ positions then c ^^^ forneyValue f lam omega (block.length - 1 - j) else c := by
  simp only [forneyCorrect, List.getElem?_map, List.getElem?_zipIdx, Option.map_map, Nat.zero_add]
  rfl

theorem length_forneyCorrect : (forneyCorrect f lam omega positions block).length = block.length := by
  rw [forneyCorrect, List.length_map, List.length_zipIdx]

theorem symbols_forneyCorrect (hok : f.ok = true) (hblock : f.Symbols block) :
    f.Symbols (forneyCorrect f lam omega positions block) := by
  intro c hc
  obtain ⟨j, hj⟩ := List.getElem?_of_mem hc
  rw [getElem?_forneyCorrect, Option.map_eq_some_iff] at hj
  obtain ⟨c, hcj, rfl⟩ := hj
  have hclt := hblock c (List.mem_of_getElem? hcj)
  split
  · exact toNat_xor_lt hclt (gfDiv_lt hok _ _)
  · exact hclt

theorem symbols_rsCorrected (hok : f.ok = true) (hblock : f.Symbols block) : f.Symbols (rsCorrected f r block) :=
  symbols_forneyCorrect hok hblock

theorem length_rsCorrected : (rsCorrected f r block).length = block.length := length_forneyCorrect

theorem getD_reverse {l : List Byte} (he : e < l.length) : l.reverse.getD e 0#8 = (l[l.length - 1 - e]?).getD 0#8 := by
  rw [List.getD_eq_getElem?_getD, List.getElem?_reverse he]

/-- The symbol at a position after the correction (R193, R205). -/
theorem getD_reverse_forneyCorrect (he : e < block.length) :
    (forneyCorrect f lam omega positions block).reverse.getD e 0#8 =
      block.reverse.getD e 0#8 ^^^ if e ∈ positions then forneyValue f lam omega e else 0#8 := by
  have hj : block.length - 1 - (block.length - 1 - e) = e := by omega
  rw [getD_reverse (by rwa [length_forneyCorrect]), getD_reverse he, length_forneyCorrect, getElem?_forneyCorrect, hj,
    List.getElem?_eq_getElem (by omega), Option.map_some, Option.getD_some, Option.getD_some]
  split <;> simp

end

namespace FieldView

variable {f : GField} {K : Type} [Field K] (V : FieldView f K) {r e : Nat} {block code : List Byte}

/-! ### The syndromes and the register -/

/-- The syndromes are the values of the block at α^1, ..., α^r (R198). -/
theorem coeff_syndromes (hok : f.ok = true) (hblock : f.Symbols block) (i : Nat) :
    (V.poly (syndromes f r block)).coeff i = if i < r then (V.blockPoly block).eval (V.alpha ^ (i + 1)) else 0 := by
  split
  case isTrue hi =>
    rw [coeff_poly, List.getD_eq_getElem?_getD, syndromes, List.getElem?_map, List.getElem?_range hi, Option.map_some,
      Option.getD_some, blockEval_eq_polyEval, V.val_polyEval hok (symbols_reverse hblock) (alphaPow_lt hok _),
      V.val_alphaPow, blockPoly]
  case isFalse hi => exact V.coeff_poly_of_le (by rw [length_syndromes]; omega)

theorem bmInv_rsRegister (hok : f.ok = true) (hblock : f.Symbols block) :
    BmInv V (syndromes f r block) r (rsRegister f r block) := by
  have h := V.bmInv_berlekampMassey hok (symbols_syndromes (r := r) hok hblock)
  rwa [length_syndromes] at h

/-- The evaluator is `Λ · S` modulo `x^r` (R203). -/
theorem coeff_errorEvaluator {syn lam : List Byte} (hsyn : f.Symbols syn) (hlam : f.Symbols lam) (j : Nat) :
    (V.poly (errorEvaluator f r syn lam)).coeff j = if j < r then (V.poly lam * V.poly syn).coeff j else 0 := by
  rw [errorEvaluator, coeff_poly_take, V.poly_polyMul hsyn hlam, mul_comm]

theorem mem_rsPositions_iff (hok : f.ok = true) (hblock : f.Symbols block) :
    e ∈ rsPositions f r block ↔
      e < gfOrder f.m ∧ (V.poly (rsRegister f r block).lam).eval (V.alpha ^ e)⁻¹ = 0 := by
  rw [rsPositions, chienSearch, List.mem_filter, List.mem_range, beq_iff_eq]
  refine and_congr_right fun he => ?_
  rw [V.polyEval_eq_zero_iff hok (V.bmInv_rsRegister hok hblock).symbols_lam (alphaNeg_lt hok e),
    V.val_alphaNeg hok he.le]

theorem lt_order_of_mem (he : e ∈ (rsPositions f r block).toFinset) : e < gfOrder f.m :=
  List.mem_range.1 (List.mem_filter.1 (List.mem_toFinset.1 he)).1

theorem eval_eq_zero_of_mem (hok : f.ok = true) (hblock : f.Symbols block)
    (he : e ∈ (rsPositions f r block).toFinset) :
    (V.poly (rsRegister f r block).lam).eval (V.alpha ^ e)⁻¹ = 0 :=
  ((V.mem_rsPositions_iff hok hblock).1 (List.mem_toFinset.1 he)).2

/-! ### Located errors -/

theorem alpha_pow_ne_zero (hok : f.ok = true) (e : Nat) : V.alpha ^ e ≠ 0 := pow_ne_zero e (V.alpha_ne_zero hok)

/-- Different positions below N have different locators (R201). -/
theorem alpha_pow_injOn_of_lt (hok : f.ok = true) {E : Finset Nat} (hE : ∀ e ∈ E, e < gfOrder f.m) :
    Set.InjOn (V.alpha ^ ·) E := (V.alpha_pow_injOn hok).mono fun e he => hE e he

/-- Each position is a root of Λ, and they are as many as the register is long. -/
theorem card_rsPositions (hok : f.ok = true) (hblock : f.Symbols block) (hlocated : Located f r block) :
    (rsPositions f r block).toFinset.card = (rsRegister f r block).len ∧
      (V.poly (rsRegister f r block).lam).natDegree = (rsRegister f r block).len := by
  rw [List.toFinset_card_of_nodup nodup_rsPositions, hlocated.length_eq,
    ← V.polyDeg_eq_natDegree (V.bmInv_rsRegister hok hblock).symbols_lam]
  exact ⟨hlocated.deg_eq, hlocated.deg_eq⟩

/-- Located errors are simple roots, so Forney's quotient exists (R202, item 3). -/
theorem eval_derivative_ne_zero_of_located (hok : f.ok = true) (hblock : f.Symbols block)
    (hlocated : Located f r block) (he : e ∈ rsPositions f r block) :
    (V.poly (rsRegister f r block).lam).derivative.eval (V.alpha ^ e)⁻¹ ≠ 0 := by
  obtain ⟨hcard, hdeg⟩ := V.card_rsPositions hok hblock hlocated
  exact eval_derivative_ne_zero (E := (rsPositions f r block).toFinset) (x := fun e => (V.alpha ^ e)⁻¹)
    (V.bmInv_rsRegister hok hblock).synthesis.generates.ne_zero
    (inv_injective.comp_injOn (V.alpha_pow_injOn_of_lt hok fun _ he => lt_order_of_mem he))
    (fun _ he => V.eval_eq_zero_of_mem hok hblock he) (hdeg.trans_le hcard.ge) (List.mem_toFinset.2 he)

theorem val_polyEval_polyDeriv (hok : f.ok = true) (hblock : f.Symbols block) (he : e < gfOrder f.m) :
    V.val (polyEval f (polyDeriv (rsRegister f r block).lam) (alphaNeg f e)) =
      (V.poly (rsRegister f r block).lam).derivative.eval (V.alpha ^ e)⁻¹ := by
  have hlam := (V.bmInv_rsRegister (r := r) hok hblock).symbols_lam
  rw [V.val_polyEval hok (symbols_polyDeriv hlam) (alphaNeg_lt hok e), V.poly_polyDeriv hlam, V.val_alphaNeg hok he.le]

include V in
theorem polyEval_polyDeriv_ne_zero (hok : f.ok = true) (hblock : f.Symbols block) (hlocated : Located f r block)
    (he : e ∈ rsPositions f r block) :
    polyEval f (polyDeriv (rsRegister f r block).lam) (alphaNeg f e) ≠ 0#8 := by
  intro hzero
  refine V.eval_derivative_ne_zero_of_located hok hblock hlocated he ?_
  rw [← V.val_polyEval_polyDeriv hok hblock (lt_order_of_mem (List.mem_toFinset.2 he)), hzero, V.val_zero]

/-! ### The corrected block -/

/-- The error evaluator of the block (R203). -/
noncomputable def omegaPoly (r : Nat) (block : List Byte) : K[X] :=
  V.poly (errorEvaluator f r (syndromes f r block) (rsRegister f r block).lam)

/-- The value added at position e, as a member of the field (R204). -/
def errorValue (r : Nat) (block : List Byte) (e : Nat) : K :=
  V.val (forneyValue f (rsRegister f r block).lam
    (errorEvaluator f r (syndromes f r block) (rsRegister f r block).lam) e)

theorem coeff_omegaPoly (hok : f.ok = true) (hblock : f.Symbols block) (j : Nat) :
    (V.omegaPoly r block).coeff j =
      if j < r then (V.poly (rsRegister f r block).lam * V.poly (syndromes f r block)).coeff j else 0 :=
  V.coeff_errorEvaluator (symbols_syndromes hok hblock) (V.bmInv_rsRegister hok hblock).symbols_lam j

theorem degree_omegaPoly_lt (hok : f.ok = true) (hblock : f.Symbols block) :
    (V.omegaPoly r block).degree < (rsRegister f r block).len :=
  (V.bmInv_rsRegister hok hblock).synthesis.generates.degree_lt (V.coeff_omegaPoly hok hblock)

theorem dvd_sub_omegaPoly (hok : f.ok = true) (hblock : f.Symbols block) :
    X ^ r ∣ V.poly (rsRegister f r block).lam * V.poly (syndromes f r block) - V.omegaPoly r block := by
  rw [X_pow_dvd_iff]
  intro j hj
  rw [coeff_sub, V.coeff_omegaPoly hok hblock, if_pos hj, sub_self]

theorem symbols_errorEvaluator (hok : f.ok = true) {syn lam : List Byte} (hsyn : f.Symbols syn)
    (hlam : f.Symbols lam) : f.Symbols (errorEvaluator f r syn lam) :=
  fun c hc => symbols_polyMul hok hsyn hlam c (List.mem_of_mem_take hc)

theorem errorValue_mul (hok : f.ok = true) (hblock : f.Symbols block) (hlocated : Located f r block)
    (he : e ∈ rsPositions f r block) :
    V.errorValue r block e * (V.poly (rsRegister f r block).lam).derivative.eval (V.alpha ^ e)⁻¹ =
      (V.omegaPoly r block).eval (V.alpha ^ e)⁻¹ := by
  have hlam := (V.bmInv_rsRegister (r := r) hok hblock).symbols_lam
  have heN := (lt_order_of_mem (List.mem_toFinset.2 he))
  have homega := symbols_errorEvaluator (r := r) hok (symbols_syndromes (r := r) hok hblock) hlam
  rw [errorValue, forneyValue, V.val_gfDiv hok (polyEval_lt hok homega (alphaNeg_lt hok e))
    (polyEval_lt hok (symbols_polyDeriv hlam) (alphaNeg_lt hok e))
    (V.polyEval_polyDeriv_ne_zero hok hblock hlocated he), V.val_polyEval_polyDeriv hok hblock heN,
    div_mul_cancel₀ _ (V.eval_derivative_ne_zero_of_located hok hblock hlocated he),
    V.val_polyEval hok homega (alphaNeg_lt hok e), V.val_alphaNeg hok heN.le, omegaPoly]

/-- The values at the positions, as a polynomial. -/
noncomputable def correction (r : Nat) (block : List Byte) : K[X] :=
  ∑ e ∈ (rsPositions f r block).toFinset, C (V.errorValue r block e) * X ^ e

theorem coeff_correction (j : Nat) :
    (V.correction r block).coeff j = if j ∈ rsPositions f r block then V.errorValue r block j else 0 := by
  simp only [correction, finsetSum_coeff, coeff_C_mul_X_pow, Finset.sum_ite_eq, List.mem_toFinset]

/-- The correction adds its values to the block at once (R205). -/
theorem blockPoly_rsCorrected (hreal : ∀ e ∈ rsPositions f r block, e < block.length) :
    V.blockPoly (rsCorrected f r block) = V.blockPoly block + V.correction r block := by
  ext j
  rw [coeff_add, coeff_correction, blockPoly, blockPoly]
  obtain hlt | hge := Nat.lt_or_ge j block.length
  · rw [coeff_poly, coeff_poly, rsCorrected, getD_reverse_forneyCorrect hlt, V.val_xor, apply_ite V.val, V.val_zero]
    rfl
  · have hpos : j ∉ rsPositions f r block := fun hj => Nat.not_lt.2 hge (hreal j hj)
    rw [if_neg hpos, V.coeff_poly_of_le (by rwa [List.length_reverse, length_rsCorrected]),
      V.coeff_poly_of_le (by rwa [List.length_reverse]), add_zero]

theorem eval_correction {i : Nat} (hi : i < r) :
    (V.correction r block).eval (V.alpha ^ (i + 1)) =
      (powerSums (rsPositions f r block).toFinset (V.errorValue r block) (V.alpha ^ ·) r).coeff i := by
  rw [coeff_powerSums, if_pos hi, correction, eval_finsetSum]
  refine Finset.sum_congr rfl fun e _ => ?_
  rw [eval_mul, eval_C, eval_pow, eval_X, pow_right_comm]

include V in
/-- The block that RSCOR writes back is a codeword (R210). -/
theorem isCodeword_rsCorrected (hok : f.ok = true) (hblock : f.Symbols block) (hlocated : Located f r block)
    (hreal : ∀ e ∈ rsPositions f r block, e < block.length) : isCodeword f r (rsCorrected f r block) = true := by
  obtain ⟨hcard, -⟩ := V.card_rsPositions hok hblock hlocated
  have hcancel := dvd_add_powerSums (y := V.errorValue r block) (fun e _ => V.alpha_pow_ne_zero hok e)
    (V.alpha_pow_injOn_of_lt hok fun _ he => lt_order_of_mem he) (V.bmInv_rsRegister hok hblock).synthesis.generates
    (V.dvd_sub_omegaPoly hok hblock) (V.degree_omegaPoly_lt hok hblock) hcard
    (fun _ he => V.eval_eq_zero_of_mem hok hblock he)
    (fun e he => V.errorValue_mul hok hblock hlocated (List.mem_toFinset.1 he))
  rw [V.isCodeword_iff hok (symbols_rsCorrected hok hblock)]
  intro i hi
  have hcoeff := X_pow_dvd_iff.1 hcancel i hi
  rw [coeff_add, V.coeff_syndromes hok hblock, if_pos hi] at hcoeff
  rw [V.blockPoly_rsCorrected hreal, eval_add, V.eval_correction hi, hcoeff]

end FieldView

section
variable {f : GField} {r len deg : Nat} {block out : List Byte}

theorem isCodeword_of_rsDecode_clean (h : rsDecode f r block = .clean) : isCodeword f r block = true := by
  obtain ⟨hclean, -⟩ | ⟨-, _, _, h'⟩ | ⟨-, -, _, _, h'⟩ | ⟨-, -, _, _, h'⟩ | ⟨-, -, h'⟩ := rsDecode_cases f r block
  case inl => rwa [← syndromes_all_zero_iff]
  all_goals
    rw [h] at h'
    cases h'

/-- A corrected block is a codeword (R210). -/
theorem isCodeword_of_rsDecode_corrected (hok : f.ok = true) (hblock : f.Symbols block)
    (h : rsDecode f r block = .corrected out len deg) : isCodeword f r out = true := by
  obtain ⟨K, _, ⟨V⟩⟩ := exists_fieldView hok
  obtain ⟨-, h'⟩ | ⟨-, _, _, h'⟩ | ⟨-, -, _, _, h'⟩ | ⟨-, -, _, _, h'⟩ | ⟨hlocated, hreal, h'⟩ :=
    rsDecode_cases f r block
  all_goals
    rw [h] at h'
    cases h'
  exact V.isCodeword_rsCorrected hok hblock hlocated hreal

end

/-- Settles O39: when the first check of R202 passes, the roots of Λ are as many as its degree, hence simple. -/
theorem rscorNeverEndsAsForney : Obligations.RscorNeverEndsAsForney := by
  intro f k r len deg block hok _ _ hblock hforney
  obtain ⟨K, _, ⟨V⟩⟩ := exists_fieldView hok
  obtain ⟨-, h⟩ | ⟨-, _, _, h⟩ | ⟨-, -, _, _, h⟩ | ⟨hlocated, ⟨e, he, hzero⟩, -⟩ | ⟨-, -, h⟩ := rsDecode_cases f r block
  case inr.inr.inr.inl => exact V.polyEval_polyDeriv_ne_zero hok hblock hlocated he hzero
  all_goals
    rw [h] at hforney
    cases hforney

/-! ### The distance of two blocks -/

section
variable {a b : Byte} {p q : List Byte}

theorem distance_cons (a b : Byte) (p q : List Byte) :
    distance (a :: p) (b :: q) = distance p q + if a ≠ b then 1 else 0 := by
  simp only [distance, List.zip_cons_cons, List.countP_cons, bne_iff_ne]

theorem distance_reverse (hlen : p.length = q.length) : distance p.reverse q.reverse = distance p q := by
  rw [distance, List.zip, ← List.reverse_zipWith hlen, List.countP_reverse]
  rfl

/-- The distance counts the places (R208). -/
theorem distance_eq_sum (hlen : p.length = q.length) :
    distance p q = ∑ e ∈ Finset.range p.length, if p.getD e 0#8 ≠ q.getD e 0#8 then 1 else 0 := by
  induction p generalizing q with
  | nil =>
    rw [List.length_nil] at hlen
    rw [List.eq_nil_of_length_eq_zero hlen.symm]
    rfl
  | cons a p ih =>
    cases q with
    | nil => exact absurd hlen (by simp)
    | cons b q =>
      rw [distance_cons, ih (by simpa using hlen), List.length_cons, Finset.sum_range_succ']
      rfl

theorem distance_self (p : List Byte) : distance p p = 0 := by
  rw [distance_eq_sum rfl]
  exact Finset.sum_eq_zero fun _ _ => if_neg (not_not_intro rfl)

end

namespace FieldView

variable {f : GField} {K : Type} [Field K] (V : FieldView f K) {r e : Nat} {p q block code : List Byte}

/-- Lists of symbols of one length that stand for one polynomial are equal. -/
theorem poly_injOn (hp : f.Symbols p) (hq : f.Symbols q) (hlen : p.length = q.length) (h : V.poly p = V.poly q) :
    p = q := by
  refine List.ext_getElem hlen fun i hip hiq => ?_
  have hcoeff := congrArg (coeff · i) h
  rw [coeff_poly, coeff_poly, List.getD_eq_getElem _ _ hip, List.getD_eq_getElem _ _ hiq] at hcoeff
  exact V.val_inj _ _ (hp _ (List.getElem_mem hip)) (hq _ (List.getElem_mem hiq)) hcoeff

/-- What two blocks differ by, as a polynomial: the error of R208. -/
noncomputable def errorPoly (block code : List Byte) : K[X] := V.blockPoly block + V.blockPoly code

theorem mem_support_errorPoly_iff (hblock : f.Symbols block) (hcode : f.Symbols code) :
    e ∈ (V.errorPoly block code).support ↔ block.reverse.getD e 0#8 ≠ code.reverse.getD e 0#8 := by
  have := V.charP
  rw [mem_support_iff, errorPoly, coeff_add, blockPoly, blockPoly, coeff_poly, coeff_poly, ne_eq, CharTwo.add_eq_zero,
    not_iff_not]
  exact ⟨V.val_inj _ _ (getD_lt (symbols_reverse hblock) e) (getD_lt (symbols_reverse hcode) e), congrArg V.val⟩

theorem lt_length_of_mem_support (hlen : block.length = code.length) (he : e ∈ (V.errorPoly block code).support) :
    e < block.length := by
  by_contra hge
  refine mem_support_iff.1 he ?_
  rw [errorPoly, coeff_add, blockPoly, blockPoly, V.coeff_poly_of_le (by rw [List.length_reverse]; omega),
    V.coeff_poly_of_le (by rw [List.length_reverse]; omega), add_zero]

/-- The error has as many terms as the blocks differ in places. -/
theorem card_support_errorPoly (hblock : f.Symbols block) (hcode : f.Symbols code)
    (hlen : block.length = code.length) : (V.errorPoly block code).support.card = distance block code := by
  have hfilter : (V.errorPoly block code).support =
      (Finset.range block.length).filter fun e => block.reverse.getD e 0#8 ≠ code.reverse.getD e 0#8 := by
    ext e
    rw [Finset.mem_filter, Finset.mem_range, ← V.mem_support_errorPoly_iff hblock hcode]
    exact ⟨fun he => ⟨V.lt_length_of_mem_support hlen he, he⟩, And.right⟩
  rw [hfilter, Finset.card_filter, ← distance_reverse hlen,
    distance_eq_sum (by rw [List.length_reverse, List.length_reverse, hlen]), List.length_reverse]

theorem errorPoly_eq_zero_iff (hblock : f.Symbols block) (hcode : f.Symbols code)
    (hlen : block.length = code.length) : V.errorPoly block code = 0 ↔ block = code := by
  have := V.charP
  rw [errorPoly, CharTwo.add_eq_zero]
  refine ⟨fun h => List.reverse_injective ?_, congrArg V.blockPoly⟩
  exact V.poly_injOn (symbols_reverse hblock) (symbols_reverse hcode) (by simpa using hlen) h

/-! ### Errors up to the capacity -/

/-- The power sums of a polynomial's terms are its values at α^1, ..., α^r (R198). -/
theorem coeff_powerSums_support (P : K[X]) (i : Nat) :
    (powerSums P.support P.coeff (V.alpha ^ ·) r).coeff i = if i < r then P.eval (V.alpha ^ (i + 1)) else 0 := by
  rw [coeff_powerSums, eval_eq_sum, Polynomial.sum]
  simp only [pow_right_comm]

/-- The syndromes are those of the error (R198, R208). -/
theorem poly_syndromes_eq (hok : f.ok = true) (hblock : f.Symbols block) (hcode : f.Symbols code)
    (hcodeword : isCodeword f r code = true) :
    V.poly (syndromes f r block) =
      powerSums (V.errorPoly block code).support (V.errorPoly block code).coeff (V.alpha ^ ·) r := by
  ext i
  rw [V.coeff_syndromes hok hblock, coeff_powerSums_support]
  refine ite_congr rfl (fun hi => ?_) fun _ => rfl
  rw [errorPoly, eval_add, (V.isCodeword_iff hok hcode).1 hcodeword i hi, add_zero]

theorem support_lt_order (hlen : block.length = code.length) (hn : block.length ≤ gfOrder f.m) :
    ∀ e ∈ (V.errorPoly block code).support, e < gfOrder f.m :=
  fun _ he => (V.lt_length_of_mem_support hlen he).trans_le hn

/-- The minimum distance of the code: codewords that differ in r symbols or fewer are equal (R208). -/
theorem eq_of_isCodeword (hok : f.ok = true) (hblock : f.Symbols block) (hcode : f.Symbols code)
    (hlen : block.length = code.length) (hn : block.length ≤ gfOrder f.m) (hb : isCodeword f r block = true)
    (hc : isCodeword f r code = true) (hcard : (V.errorPoly block code).support.card ≤ r) : block = code := by
  have hzero : powerSums (V.errorPoly block code).support (V.errorPoly block code).coeff (V.alpha ^ ·) r = 0 := by
    rw [← V.poly_syndromes_eq hok hblock hcode hc, V.poly_eq_zero_iff (symbols_syndromes hok hblock),
      syndromes_all_zero_iff, hb]
  refine (V.errorPoly_eq_zero_iff hblock hcode hlen).1 (support_eq_empty.1 ?_)
  exact eq_empty_of_powerSums_eq_zero (fun e _ => V.alpha_pow_ne_zero hok e)
    (V.alpha_pow_injOn_of_lt hok (V.support_lt_order hlen hn)) (fun e he => mem_support_iff.1 he) hcard hzero

/-- A polynomial has no more roots than its degree. -/
theorem card_rsPositions_le (hok : f.ok = true) (hblock : f.Symbols block) :
    (rsPositions f r block).toFinset.card ≤ (V.poly (rsRegister f r block).lam).natDegree := by
  refine Nat.le_of_not_lt fun hlt => (V.bmInv_rsRegister (r := r) hok hblock).synthesis.generates.ne_zero ?_
  exact eq_zero_of_degree_lt_of_eval_index_eq_zero (v := fun e => (V.alpha ^ e)⁻¹) _
    (inv_injective.comp_injOn (V.alpha_pow_injOn_of_lt hok fun _ he => lt_order_of_mem he))
    (degree_le_natDegree.trans_lt (Nat.cast_lt.2 hlt)) fun _ he => V.eval_eq_zero_of_mem hok hblock he

/-- Up to the capacity, the decoder's register is as long as the errors are many, and its roots are their positions
(R208). -/
theorem rsPositions_of_few_errors (hok : f.ok = true) (hblock : f.Symbols block) (hcode : f.Symbols code)
    (hlen : block.length = code.length) (hn : block.length ≤ gfOrder f.m) (hc : isCodeword f r code = true)
    (hcard : 2 * (V.errorPoly block code).support.card ≤ r) :
    (rsPositions f r block).toFinset = (V.errorPoly block code).support ∧ Located f r block ∧
      (rsRegister f r block).len = (V.errorPoly block code).support.card := by
  have hinv := V.bmInv_rsRegister (r := r) hok hblock
  have hgenerates := hinv.synthesis.generates
  have hsyn := V.poly_syndromes_eq (r := r) hok hblock hcode hc
  have hne (e : Nat) (_ : e ∈ (V.errorPoly block code).support) : V.alpha ^ e ≠ 0 := V.alpha_pow_ne_zero hok e
  have hle : (rsRegister f r block).len ≤ (V.errorPoly block code).support.card :=
    hinv.synthesis.minimal _ _ (hsyn ▸ generates_errorLocator hne)
  have hsub : (V.errorPoly block code).support ⊆ (rsPositions f r block).toFinset := by
    intro e he
    refine List.mem_toFinset.2 ((V.mem_rsPositions_iff hok hblock).2 ⟨V.support_lt_order hlen hn e he, ?_⟩)
    exact eval_eq_zero_of_generates hne (V.alpha_pow_injOn_of_lt hok (V.support_lt_order hlen hn))
      (fun e he => mem_support_iff.1 he) (hsyn ▸ hgenerates) (hsyn ▸ V.dvd_sub_omegaPoly hok hblock)
      (V.degree_omegaPoly_lt hok hblock) (by omega) he
  have hroots := V.card_rsPositions_le (r := r) hok hblock
  have hsupport := Finset.card_le_card hsub
  have hdeg := hgenerates.natDegree_le
  have hpolyDeg := V.polyDeg_eq_natDegree hinv.symbols_lam
  have hlength := List.toFinset_card_of_nodup (nodup_rsPositions (f := f) (r := r) (block := block))
  exact ⟨(Finset.eq_of_subset_of_card_le hsub (by omega)).symm, ⟨by omega, by omega⟩, by omega⟩

theorem support_correction_subset : (V.correction r block).support ⊆ (rsPositions f r block).toFinset := by
  intro e he
  by_contra hnot
  exact mem_support_iff.1 he (by rw [coeff_correction, if_neg (mt List.mem_toFinset.2 hnot)])

include V in
/-- Up to the capacity, the corrected block is the codeword: both are codewords, and differ at the positions alone
(R208). -/
theorem rsCorrected_of_few_errors (hok : f.ok = true) (hblock : f.Symbols block) (hcode : f.Symbols code)
    (hlen : block.length = code.length) (hn : block.length ≤ gfOrder f.m) (hc : isCodeword f r code = true)
    (hcard : (V.errorPoly block code).support.card ≤ r) (hlocated : Located f r block)
    (hpositions : (rsPositions f r block).toFinset = (V.errorPoly block code).support) :
    rsCorrected f r block = code := by
  have hreal (e : Nat) (he : e ∈ rsPositions f r block) : e < block.length :=
    V.lt_length_of_mem_support hlen (hpositions ▸ List.mem_toFinset.2 he)
  have hsum : V.errorPoly (rsCorrected f r block) code = V.errorPoly block code + V.correction r block := by
    rw [errorPoly, errorPoly, V.blockPoly_rsCorrected hreal]
    ring
  have hsupport : (V.errorPoly (rsCorrected f r block) code).support ⊆ (V.errorPoly block code).support := by
    rw [hsum]
    exact support_add.trans (Finset.union_subset subset_rfl (hpositions ▸ V.support_correction_subset))
  exact V.eq_of_isCodeword hok (symbols_rsCorrected hok hblock) hcode (length_rsCorrected.trans hlen)
    (length_rsCorrected.trans_le hn) (V.isCodeword_rsCorrected hok hblock hlocated hreal) hc
    ((Finset.card_le_card hsupport).trans hcard)

end FieldView

/-- The decoder restores a codeword with at most half as many errors as there are parity symbols (R208). -/
theorem rsDecode_of_few_errors {f : GField} {r : Nat} {block code : List Byte} (hok : f.ok = true)
    (hblock : f.Symbols block) (hcode : f.Symbols code) (hlen : block.length = code.length)
    (hn : block.length ≤ gfOrder f.m) (hc : isCodeword f r code = true) (hdist : 2 * distance block code ≤ r) :
    (block = code ∧ rsDecode f r block = .clean) ∨
      ∃ len, rsDecode f r block = .corrected code len (distance block code) := by
  obtain ⟨K, _, ⟨V⟩⟩ := exists_fieldView hok
  have hcard := V.card_support_errorPoly hblock hcode hlen
  have hfew : (V.errorPoly block code).support.card ≤ r := by omega
  obtain ⟨hpositions, hlocated, hlength⟩ :=
    V.rsPositions_of_few_errors hok hblock hcode hlen hn hc (by omega)
  obtain ⟨hclean, h⟩ | ⟨hroots, -⟩ | ⟨-, ⟨e, he, hpad⟩, -⟩ | ⟨-, ⟨e, he, hzero⟩, -⟩ | ⟨-, -, h⟩ :=
    rsDecode_cases f r block
  case inl =>
    rw [syndromes_all_zero_iff] at hclean
    exact .inl ⟨V.eq_of_isCodeword hok hblock hcode hlen hn hclean hc hfew, h⟩
  case inr.inl => exact absurd hlocated hroots
  case inr.inr.inl =>
    exact absurd (V.lt_length_of_mem_support hlen (hpositions ▸ List.mem_toFinset.2 he)) (Nat.not_lt.2 hpad)
  case inr.inr.inr.inl => exact absurd hzero (V.polyEval_polyDeriv_ne_zero hok hblock hlocated he)
  case inr.inr.inr.inr =>
    refine .inr ⟨(rsRegister f r block).len, ?_⟩
    rw [h, V.rsCorrected_of_few_errors hok hblock hcode hlen hn hc hfew hlocated hpositions, hlocated.deg_eq, hlength,
      hcard]

end Sys2Proof.Machine

/-! The statements of spec/44_reed_solomon.md: the commands RSCFG, RSENC and RSCOR (R191, R197, R206, R207). -/

namespace Sys2Proof.Machine

/-! ### The commands -/

/-- The checks of RSENC and RSCOR before their effect `u` (R197, R206). -/
def blockChecked (s : State) (fits symbols : Bool) (u : State) : Result :=
  if !s.rsValid then s.failWith .nocfg
  else if !fits then s.failWith .range
  else if !symbols then s.failWith .operand
  else u.complete

section
variable {s u : State} {fits symbols : Bool} {dst src addr : Byte} {a m n : Nat}

theorem exec_rsenc (s : State) (dst src : Byte) :
    exec (.rsenc dst src) s = blockChecked s (rangeOk src s.rsK.toNat && rangeOk dst s.rsR.toNat)
      ((s.memRead src.toNat s.rsK.toNat).all (isElement s.rsM.toNat))
      (s.memWrite dst.toNat (rsParity s.rsField s.rsR.toNat (s.memRead src.toNat s.rsK.toNat))) := by
  rw [blockChecked, Bool.not_and]
  rfl

theorem exec_rscor (s : State) (addr : Byte) :
    exec (.rscor addr) s = blockChecked s (rangeOk addr (s.rsK.toNat + s.rsR.toNat))
      ((s.memRead addr.toNat (s.rsK.toNat + s.rsR.toNat)).all (isElement s.rsM.toNat))
      (s.applyVerdict addr.toNat (rsDecode s.rsField s.rsR.toNat
        (s.memRead addr.toNat (s.rsK.toNat + s.rsR.toNat)))) := rfl

theorem blockChecked_of_invalid (hvalid : s.rsValid = false) :
    blockChecked s fits symbols u = .next (s.failed .nocfg) := by
  rw [blockChecked, hvalid]
  rfl

theorem blockChecked_of_misfit (hvalid : s.rsValid = true) (hfits : fits = false) :
    blockChecked s fits symbols u = .next (s.failed .range) := by
  rw [blockChecked, hvalid, hfits]
  rfl

theorem blockChecked_of_nonSymbol (hvalid : s.rsValid = true) (hfits : fits = true) (hsymbols : symbols = false) :
    blockChecked s fits symbols u = .next (s.failed .operand) := by
  rw [blockChecked, hvalid, hfits, hsymbols]
  rfl

theorem blockChecked_of_symbols (hvalid : s.rsValid = true) (hfits : fits = true) (hsymbols : symbols = true) :
    blockChecked s fits symbols u = .next u.completed := by
  rw [blockChecked, hvalid, hfits, hsymbols]
  rfl

/-- Both ranges of RSENC lie inside DBUF (R197). -/
theorem rangeOk_and_iff (a b : Byte) (i j : Nat) :
    (rangeOk a i && rangeOk b j) = true ↔ a.toNat + i ≤ 256 ∧ b.toNat + j ≤ 256 := by
  rw [Bool.and_eq_true, rangeOk_iff, rangeOk_iff]

/-- The symbol check reads every byte of the block (R192). -/
theorem all_isElement_memRead_iff (s : State) (m a n : Nat) :
    (s.memRead a n).all (isElement m) = true ↔ ∀ j, j < n → (s.dbufByte (a + j)).toNat < 2 ^ m := by
  simp only [memRead_eq_map, List.all_map, List.all_eq_true, List.mem_range, Function.comp_apply, isElement_iff]

theorem all_isElement_memRead_eq_false (h : ∃ j, j < n ∧ 2 ^ m ≤ (s.dbufByte (a + j)).toNat) :
    (s.memRead a n).all (isElement m) = false := by
  obtain ⟨j, hj, hle⟩ := h
  rw [← Bool.not_eq_true, all_isElement_memRead_iff]
  exact fun hall => Nat.not_lt.2 hle (hall j hj)

theorem all_isElement_iff (bytes : List Byte) (m : Nat) :
    bytes.all (isElement m) = true ↔ ∀ c ∈ bytes, c.toNat < 2 ^ m := by
  simp only [List.all_eq_true, isElement_iff]

/-- A MemWrite leaves its list where it wrote it (R8). -/
theorem map_dbufByte_memWrite (s : State) (a : Nat) {bytes : List Byte} (hlen : bytes.length = n) :
    (List.range n).map (fun j => (s.memWrite a bytes).dbufByte (a + j)) = bytes := by
  refine List.ext_getElem (by simp [hlen]) fun j hj hb => ?_
  rw [List.getElem_map, List.getElem_range, dbufByte_memWrite_add s a hb]

end

/-- Settles O33: the one check of RSCFG, both ways. -/
theorem rscfgConfiguresOrClears : Obligations.RscfgConfiguresOrClears := by
  intro s m k r
  refine ⟨fun hlo hhi hr1 hr8 hk hn => ⟨m.setWidth 4, ?size, ?legal⟩, fun hbad => ?illegal⟩
  case size =>
    rw [BitVec.toNat_setWidth]
    omega
  case legal =>
    rw [exec, execRscfg, if_pos ((rsConfigOk_iff ..).2 ⟨hlo, hhi, hr1, hr8, hk, hn⟩)]
    rfl
  case illegal =>
    have hcheck : ¬ rsConfigOk m.toNat k.toNat r.toNat = true := by
      rw [rsConfigOk_iff]
      omega
    rw [exec, execRscfg, if_neg hcheck]
    rfl

/-- Settles O34: the checks pass, and what is written is the parity of the data read before. -/
theorem rsencStoresTheParity : Obligations.RsencStoresTheParity := by
  intro s dst src hinv hvalid hsrc hdst hdata
  obtain ⟨-, -, hr, -⟩ := (rsConfigOk_iff ..).1 (rsConfigOk_of_rsInv hinv hvalid)
  have hlen := length_rsParity s.rsField (s.memRead src.toNat s.rsK.toNat) hr
  refine ⟨_, (exec_rsenc ..).trans (blockChecked_of_symbols hvalid ((rangeOk_and_iff ..).2 ⟨hsrc, hdst⟩)
    ((all_isElement_memRead_iff ..).2 hdata)), ?parity, fun a ha => ?outside, rfl⟩
  case parity =>
    rw [← memRead_eq_map s]
    exact map_dbufByte_memWrite s dst.toNat hlen
  case outside => exact dbufByte_memWrite_of_outside s (by rwa [hlen])

/-- Settles O40: the shared checks, for each command in turn. -/
theorem rsCommandsFailInOrder : Obligations.RsCommandsFailInOrder := by
  intro s dst src
  rw [exec_rsenc, exec_rscor]
  refine ⟨fun hvalid => ⟨blockChecked_of_invalid hvalid, blockChecked_of_invalid hvalid⟩,
    fun hvalid hrange => ?encRange,
    fun hvalid hrange => blockChecked_of_misfit hvalid ((rangeOk_eq_false_iff ..).2 hrange),
    fun hvalid hsrc hdst hsymbol => ?encSymbol, fun hvalid hsrc hsymbol => ?corSymbol⟩
  case encRange =>
    refine blockChecked_of_misfit hvalid ?_
    rwa [Bool.and_eq_false_iff, rangeOk_eq_false_iff, rangeOk_eq_false_iff]
  case encSymbol =>
    exact blockChecked_of_nonSymbol hvalid ((rangeOk_and_iff ..).2 ⟨hsrc, hdst⟩)
      (all_isElement_memRead_eq_false hsymbol)
  case corSymbol =>
    exact blockChecked_of_nonSymbol hvalid ((rangeOk_iff ..).2 hsrc) (all_isElement_memRead_eq_false hsymbol)

/-! ### The results of RSCOR -/

/-- RSCOR of a block of symbols inside DBUF has the effect of what the decoder finds (R206). -/
theorem exec_rscor_of_symbols {s : State} {addr : Byte} {n : Nat} {block : List Byte} (hvalid : s.rsValid = true)
    (hn : n = s.rsK.toNat + s.rsR.toNat) (hrange : addr.toNat + n ≤ 256)
    (hblock : block = (List.range n).map fun j => s.dbufByte (addr.toNat + j))
    (hsymbols : ∀ c ∈ block, c.toNat < 2 ^ s.rsM.toNat) :
    exec (.rscor addr) s =
      .next (s.applyVerdict addr.toNat (rsDecode s.rsField s.rsR.toNat block)).completed := by
  rw [← memRead_eq_map, hn] at hblock
  rw [hn] at hrange
  rw [exec_rscor, ← hblock]
  exact blockChecked_of_symbols hvalid ((rangeOk_iff ..).2 hrange) ((all_isElement_iff ..).2 hsymbols)

/-- The fields of RES1 (R207). -/
theorem extract_res1 (len deg : Byte) :
    (0#16 ++ len ++ deg : BitVec 32).extractLsb' 0 8 = deg ∧ (0#16 ++ len ++ deg : BitVec 32).extractLsb' 8 8 = len ∧
      (0#16 ++ len ++ deg : BitVec 32).extractLsb' 16 16 = 0#16 := by
  refine ⟨BitVec.extractLsb'_append_eq_right, ?len, ?zero⟩
  case len => exact (BitVec.extractLsb'_append_eq_of_le (le_refl 8)).trans BitVec.extractLsb'_append_eq_right
  case zero => exact (BitVec.extractLsb'_append_eq_of_le (by decide)).trans BitVec.extractLsb'_append_eq_left

/-- The fields of RES0 of a corrected block (R207). -/
theorem extract_res0 (deg : Byte) :
    (0#24 ++ deg : BitVec 32).extractLsb' 0 8 = deg ∧ (0#24 ++ deg : BitVec 32).extractLsb' 8 24 = 0#24 :=
  ⟨BitVec.extractLsb'_append_eq_right, BitVec.extractLsb'_append_eq_left⟩

/-- Settles O36: the effect of each verdict. -/
theorem rscorReportsAndCorrects : Obligations.RscorReportsAndCorrects := by
  intro s addr n block v hinv hvalid hn hrange hblock hsymbols hv
  have hlen : block.length = n := by rw [hblock, List.length_map, List.length_range]
  refine ⟨_, exec_rscor_of_symbols hvalid hn hrange hblock hsymbols, ?_⟩
  rw [← hv]
  cases v with
  | clean => exact ⟨fun a _ => rfl, rfl, rfl, rfl, rfl⟩
  | uncorrectable reason len deg =>
    refine ⟨fun a _ => rfl, rfl, rfl, ?_, extract_res1 ..⟩
    cases reason <;> rfl
  | corrected out len deg =>
    have hout : out.length = n := (length_of_rsDecode_corrected hv.symm).trans hlen
    obtain ⟨hdeg, hzero⟩ := extract_res0 (BitVec.ofNat 8 deg)
    exact ⟨fun a ha => dbufByte_memWrite_of_outside s (by rwa [hout]), rfl,
      map_dbufByte_memWrite s addr.toNat hout, hdeg, hzero, extract_res1 ..⟩

/-- The field of a valid configuration is one the core may have (R171, R191). -/
theorem rsField_ok {s : State} (hprim : s.primInv) (hinv : s.rsInv) (hvalid : s.rsValid = true) :
    s.rsField.ok = true := by
  obtain ⟨hlo, hhi, -⟩ := (rsConfigOk_iff ..).1 (rsConfigOk_of_rsInv hinv hvalid)
  exact field_ok hprim hlo hhi

/-- FAIL is set whatever the reason (R207). -/
theorem rsRes0_uncorrectable_fail (reason : RsReason) (len deg : Nat) :
    (rsRes0 (.uncorrectable reason len deg)).getLsbD 8 = true := by
  rw [rsRes0, BitVec.getLsbD_append, BitVec.getLsbD_append]
  rfl

/-- Settles O38: a clean block is a codeword as it stands, and a corrected one by Forney's values. -/
theorem rscorSuccessLeavesACodeword : Obligations.RscorSuccessLeavesACodeword := by
  intro s t addr hprim hinv hexec herr hfail
  obtain ⟨-, rfl⟩ | ⟨-, -, rfl⟩ | ⟨-, -, -, rfl⟩ | ⟨hvalid, -, hsymbols, rfl⟩ := execRscor_cases hexec
  case inl => cases herr
  case inr.inl => cases herr
  case inr.inr.inl => cases herr
  case inr.inr.inr =>
    have hlen := length_memRead s addr.toNat (s.rsK.toNat + s.rsR.toNat)
    generalize hread : s.memRead addr.toNat (s.rsK.toNat + s.rsR.toNat) = block at *
    cases hv : rsDecode s.rsField s.rsR.toNat block with
    | clean =>
      rw [memRead_eq_map] at hread
      exact (congrArg _ hread).trans (isCodeword_of_rsDecode_clean hv)
    | uncorrectable reason len deg =>
      rw [hv] at hfail
      exact absurd (hfail.symm.trans (rsRes0_uncorrectable_fail reason len deg)) (by decide)
    | corrected out len deg =>
      have hout := (length_of_rsDecode_corrected hv).trans hlen
      exact (congrArg _ (map_dbufByte_memWrite s addr.toNat hout)).trans
        (isCodeword_of_rsDecode_corrected (rsField_ok hprim hinv hvalid) ((all_isElement_iff ..).1 hsymbols) hv)

/-- A small number in the low byte of RES0 (R207). -/
theorem zero_append_ofNat {d : Nat} (hd : d < 256) : (0#24 ++ BitVec.ofNat 8 d : BitVec 32) = BitVec.ofNat 32 d := by
  rw [← setWidth_byte_eq_append, BitVec.setWidth_ofNat_of_le_of_lt (by decide) hd]

/-- Settles O37: the decoder finds the codeword, or the block is the codeword already. -/
theorem rscorCorrectsUpToCapacity : Obligations.RscorCorrectsUpToCapacity := by
  intro s addr n block code hprim hinv hvalid hn hrange hblock hsymbols hcodeLen hcode hcodeword hdist
  obtain ⟨-, -, -, hr8, -, horder⟩ := (rsConfigOk_iff ..).1 (rsConfigOk_of_rsInv hinv hvalid)
  have hlen : block.length = n := by rw [hblock, List.length_map, List.length_range]
  have hlenOrder : block.length ≤ gfOrder s.rsField.m := hlen.trans_le (hn.trans_le horder)
  refine ⟨_, exec_rscor_of_symbols hvalid hn hrange hblock hsymbols, ?_⟩
  obtain ⟨heq, h⟩ | ⟨len, h⟩ := rsDecode_of_few_errors (rsField_ok hprim hinv hvalid) hsymbols hcode
    (hlen.trans hcodeLen.symm) hlenOrder hcodeword (by omega)
  case inl =>
    rw [h, ← heq, distance_self]
    exact ⟨hblock.symm, rfl, rfl⟩
  case inr =>
    rw [h]
    exact ⟨map_dbufByte_memWrite s addr.toNat hcodeLen, zero_append_ofNat (by omega), rfl⟩

end Sys2Proof.Machine

/-! The statements of spec/45_host_procedures.md: the commands of a procedure one by one, the payload block of an id
(R232), one trial of the orientation decode (R234) and the decode of a tag's own samples (R235 to R238). -/

namespace Sys2Proof.Machine

variable {s t : State} {i : Instr}

/-! ### A command of a procedure -/

/-- The engine performs the command whose word was accepted (R120, R122). -/
theorem engineStep_acceptCommand_encode (s : State) (i : Instr) :
    engineStep (s.acceptCommand (encode i)) = exec i (s.acceptCommand (encode i)) := by
  rw [engineStep, State.acceptCommand_cmdl, everyCommandDecodesFromItsWord]

/-- A command that ends normally passes the check of R230. -/
theorem issueChecked_of_completed {u : State} (h : exec i (s.acceptCommand (encode i)) = .next u.completed) :
    s.issueChecked i = some u.completed := by
  rw [State.issueChecked, issue_eq _ ((engineStep_acceptCommand_encode s i).trans h)]
  rfl

/-- What passes the check of R230 is what the command left. -/
theorem exec_of_issueChecked (h : s.issueChecked i = some t) : exec i (s.acceptCommand (encode i)) = .next t := by
  obtain ⟨u, hengine⟩ := exists_engineStep_eq_next (s.acceptCommand (encode i))
  rw [State.issueChecked, issue_eq _ hengine] at h
  obtain ⟨-, hu⟩ := Option.ite_none_left_eq_some.1 h
  obtain rfl := Option.some.inj hu
  rwa [← engineStep_acceptCommand_encode]

theorem commandEnd_of_issueChecked (h : s.issueChecked i = some t) :
    CommandEnd (s.acceptCommand (encode i)) i t := exec_commandEnd (exec_of_issueChecked h)

/-! ### Blocks in DBUF -/

@[simp] theorem memRead_acceptCommand (s : State) (w : Word) (a n : Nat) :
    (s.acceptCommand w).memRead a n = s.memRead a n := memRead_congr (s := s) (t := s.acceptCommand w) rfl rfl a n

@[simp] theorem memRead_completed (s : State) (a n : Nat) : s.completed.memRead a n = s.memRead a n :=
  memRead_congr (s := s) (t := s.completed) rfl rfl a n

@[simp] theorem memRead_setResult (s : State) (r0 r1 : Word) (a n : Nat) :
    (s.setResult r0 r1).memRead a n = s.memRead a n := memRead_congr (s := s) (t := s.setResult r0 r1) rfl rfl a n

/-- A MemRead in two parts (R8). -/
theorem memRead_add (s : State) (a m n : Nat) : s.memRead a (m + n) = s.memRead a m ++ s.memRead (a + m) n := by
  induction m generalizing a with
  | zero => rw [Nat.zero_add, State.memRead, List.nil_append, Nat.add_zero]
  | succ m ih =>
    rw [Nat.succ_add, State.memRead, State.memRead, ih, List.cons_append, Nat.add_right_comm, Nat.add_assoc]

theorem map_dbufByte_eq_memRead (s : State) (n : Nat) : (List.range n).map s.dbufByte = s.memRead 0 n := by
  simp only [memRead_eq_map, Nat.zero_add]

/-- A MemRead returns what a MemWrite of the same range left (R8). -/
theorem memRead_memWrite_self (s : State) (a : Nat) {bytes : List Byte} {n : Nat} (hlen : bytes.length = n) :
    (s.memWrite a bytes).memRead a n = bytes := by
  rw [memRead_eq_map, map_dbufByte_memWrite s a hlen]

/-- A MemRead does not see a MemWrite behind its range (R8). -/
theorem memRead_memWrite_of_le (s : State) {a c n : Nat} (bytes : List Byte) (h : c + n ≤ a) :
    (s.memWrite a bytes).memRead c n = s.memRead c n := by
  simp only [memRead_eq_map]
  refine List.map_congr_left fun j hj => dbufByte_memWrite_of_outside s (.inl ?_)
  have := List.mem_range.1 hj
  omega

/-- The lanes of a word put together from four bytes (R62). -/
theorem laneBytes_laneWord (a b c d : Byte) : laneBytes (laneWord a b c d) = [a, b, c, d] := by
  have hlane (j : Nat) (hj : j < 4) := extractLsb'_laneWord ([a, b, c, d].getD · 0#8) hj
  rw [laneBytes]
  exact congrArg₂ _ (hlane 0 (by decide)) (congrArg₂ _ (hlane 1 (by decide))
    (congrArg₂ _ (hlane 2 (by decide)) (congrArg₂ _ (hlane 3 (by decide)) rfl)))

/-- The first two lanes of a word written to DBUF (R62). -/
theorem memRead_hostWrite_dbuf (hidle : s.busy = false) (a b c d : Byte) :
    (s.hostWrite (.dbuf 0) (laneWord a b c d)).memRead 0 2 = [a, b] := by
  rw [hostWrite_of_idle hidle, State.writeLocation, laneBytes_laneWord]
  simp [State.memRead, dbufByte_memWrite]

/-! ### The payload block -/

/-- The whitened id, high byte first (R232). -/
def payloadHead (id : BitVec 16) : List Byte := [(id ^^^ whiten).extractLsb' 8 8, (id ^^^ whiten).extractLsb' 0 8]

/-- The whitened id and its CRC: the data symbols of the payload block (R232). -/
def payloadData (id : BitVec 16) : List Byte := payloadHead id ++ crcBytes (crc16 (payloadHead id))

theorem payload_eq (polys : Config.PrimPolys) (id : BitVec 16) :
    payload polys id = payloadData id ++ rsParity (payloadField polys) 4 (payloadData id) := rfl

theorem length_payload (polys : Config.PrimPolys) (id : BitVec 16) : (payload polys id).length = 8 := by
  rw [payload_eq, List.length_append, length_rsParity _ _ (by decide)]
  rfl

/-- Every byte is a symbol of the payload's field (R232). -/
theorem payloadField_symbols (polys : Config.PrimPolys) (block : List Byte) : (payloadField polys).Symbols block :=
  fun c _ => c.isLt

/-- The payload block has no syndrome to correct (R196, R232). -/
theorem isCodeword_payload {polys : Config.PrimPolys} (hok : (payloadField polys).ok = true) (id : BitVec 16) :
    isCodeword (payloadField polys) 4 (payload polys id) = true :=
  (rsParityMakesCodewords (payloadField polys) 4 4 (payloadData id) hok rfl rfl
    (payloadField_symbols polys _)).2.2

theorem rsDecode_of_isCodeword {f : GField} {r : Nat} {block : List Byte} (h : isCodeword f r block = true) :
    rsDecode f r block = .clean := by
  rw [rsDecode_eq, syndromes_all_zero_iff, if_pos h]

/-! ### The payload's Reed-Solomon configuration -/

/-- The core is configured by RSCFG 8, 4, 4, under the field polynomials `polys` (R232, R234). -/
structure PayloadConfigured (polys : Config.PrimPolys) (s : State) : Prop where
  prim : s.prim = polys
  rsValid : s.rsValid = true
  rsM : s.rsM = 8#4
  rsK : s.rsK = 4#8
  rsR : s.rsR = 4#8

namespace PayloadConfigured

variable {polys : Config.PrimPolys}

theorem rsField_eq (h : PayloadConfigured polys s) : s.rsField = payloadField polys := by
  rw [State.rsField, State.field, h.rsM, h.prim]
  rfl

/-- Accepting a command word leaves the configuration in force (R120). -/
theorem acceptCommand (h : PayloadConfigured polys s) (w : Word) : PayloadConfigured polys (s.acceptCommand w) :=
  ⟨h.prim, h.rsValid, h.rsM, h.rsK, h.rsR⟩

/-- Only RSCFG changes the configuration (R36). -/
theorem issueChecked (h : PayloadConfigured polys s) (hissue : s.issueChecked i = some t)
    (hrscfg : ∀ m k r, i ≠ .rscfg m k r) : PayloadConfigured polys t := by
  have hend := commandEnd_of_issueChecked hissue
  obtain ⟨hvalid, hm, hk, hr⟩ := hend.keeps_rsConfig hrscfg
  exact ⟨hend.keeps_host_state.1.trans h.prim, hvalid.trans h.rsValid, hm.trans h.rsM, hk.trans h.rsK,
    hr.trans h.rsR⟩

end PayloadConfigured

/-- RSCFG 8, 4, 4 is accepted and touches no byte of DBUF (R191). -/
theorem issueChecked_rscfg_payload (s : State) :
    ∃ t, s.issueChecked (.rscfg 8 4 4) = some t ∧ PayloadConfigured s.prim t ∧
      ∀ a n, t.memRead a n = s.memRead a n :=
  ⟨((s.acceptCommand (encode (.rscfg 8 4 4))).setRsConfig true 8#4 4#8 4#8).completed, issueChecked_of_completed rfl,
    ⟨rfl, rfl, rfl, rfl, rfl⟩, memRead_congr (s := s) rfl rfl⟩

/-! ### Payload encode -/

/-- CRC16W over the two bytes of the whitened id appends their CRC (R164, R232). -/
theorem issueChecked_crc16w_payload (s : State) :
    ∃ t, s.issueChecked (.crc16w 2 2 0) = some t ∧
      t.memRead 0 4 = s.memRead 0 2 ++ crcBytes (crc16 (s.memRead 0 2)) := by
  refine ⟨_, issueChecked_of_completed (exec_crc16w_of_fits (by decide) (by decide)), ?_⟩
  rw [memRead_completed, memRead_setResult, memRead_add _ 0 2 2, memRead_memWrite_of_le _ _ (by decide),
    memRead_acceptCommand]
  exact congrArg _ (memRead_memWrite_self _ 2 rfl)

/-- RSENC over the four data symbols appends their parity (R197, R232). -/
theorem issueChecked_rsenc_payload {polys : Config.PrimPolys} (h : PayloadConfigured polys s) :
    ∃ t, s.issueChecked (.rsenc 4 0) = some t ∧
      t.memRead 0 8 = s.memRead 0 4 ++ rsParity (payloadField polys) 4 (s.memRead 0 4) := by
  have hs := h.acceptCommand (encode (.rsenc 4 0))
  have hexec := exec_rsenc (s.acceptCommand (encode (.rsenc 4 0))) 4 0
  rw [hs.rsM, hs.rsK, hs.rsR, hs.rsField_eq, memRead_acceptCommand] at hexec
  refine ⟨_, issueChecked_of_completed (hexec.trans (blockChecked_of_symbols hs.rsValid (by decide)
    ((all_isElement_iff ..).2 (payloadField_symbols polys _)))), ?_⟩
  rw [memRead_completed, memRead_add _ 0 4 4, memRead_memWrite_of_le _ _ (by decide), memRead_acceptCommand]
  exact congrArg _ (memRead_memWrite_self _ 4 (length_rsParity _ _ (by decide)))

/-- Settles O59: the whitened id, then its CRC, then the parity, each behind what stands in DBUF already. -/
theorem payloadCommandsBuildThePayload : Obligations.PayloadCommandsBuildThePayload := by
  intro s id hidle
  have hwrite : (s.hostWrite (.dbuf 0) (laneWord ((id ^^^ whiten).extractLsb' 8 8) ((id ^^^ whiten).extractLsb' 0 8)
      0#8 0#8)).memRead 0 2 = payloadHead id := memRead_hostWrite_dbuf hidle ..
  obtain ⟨s2, hrscfg, hs2, hread⟩ := issueChecked_rscfg_payload (s.hostWrite (.dbuf 0)
    (laneWord ((id ^^^ whiten).extractLsb' 8 8) ((id ^^^ whiten).extractLsb' 0 8) 0#8 0#8))
  rw [State.hostWrite_prim] at hs2
  obtain ⟨s3, hcrc16w, hdata⟩ := issueChecked_crc16w_payload s2
  have hs3 := hs2.issueChecked hcrc16w (by simp)
  obtain ⟨s4, hrsenc, hblock⟩ := issueChecked_rsenc_payload hs3
  refine ⟨s4, ?commands, ?block⟩
  case commands =>
    rw [encodePayload]
    simp only [hrscfg, hcrc16w, hrsenc]
  case block =>
    rw [map_dbufByte_eq_memRead, hblock, hdata, hread, hwrite]
    rfl

/-! ### A trial, said of the tables -/

/-- The candidate that the CRC check of R234 makes of a block. -/
def blockCandidate (rot : Rotation) : List Byte → Option Candidate
  | b0 :: b1 :: b2 :: b3 :: _ => if crc16 [b0, b1] = b2 ++ b3 then some (rot, (b0 ++ b1) ^^^ whiten) else none
  | [] | [_] | [_, _] | [_, _, _] => none

/-- The block that RSCOR leaves in DBUF, if it did not fail (R206). -/
def correctedBlock (received : List Byte) : RsVerdict → Option (List Byte)
  | .clean => some received
  | .corrected block _ _ => some block
  | .uncorrectable _ _ _ => none

theorem trialCandidate_eq (polys : Config.PrimPolys) (perm : Rotation → Equiv.Perm (BitVec 6)) (samples : BitVec 64)
    (rot : Rotation) :
    trialCandidate polys perm samples rot = (correctedBlock (trialBlock perm samples rot)
      (rsDecode (payloadField polys) 4 (trialBlock perm samples rot))).bind (blockCandidate rot) := by
  rw [trialCandidate]
  dsimp only
  cases rsDecode (payloadField polys) 4 (trialBlock perm samples rot) <;> rfl

/-- The CRC check accepts the payload block of an id and finds that id (R232, R234). -/
theorem blockCandidate_payload (polys : Config.PrimPolys) (id : BitVec 16) (rot : Rotation) :
    blockCandidate rot (payload polys id) = some (rot, id) := by
  have hhalves (c : BitVec 16) : c.extractLsb' 8 8 ++ c.extractLsb' 0 8 = c :=
    ((eq_append_bytes_iff c _ _).2 ⟨rfl, rfl⟩).symm
  refine (if_pos (hhalves (crc16 (payloadHead id))).symm).trans ?_
  rw [hhalves, BitVec.xor_assoc, BitVec.xor_self, BitVec.xor_zero]

/-- Scattering through a fixed table undoes packing through it (R143, R233). -/
theorem scatterBits_fixed (s : State) (rot : Rotation) {samples v : BitVec 64}
    (hpacked : ∀ i, i < 64 → samples.getLsbD i = v.getLsbD (s.mapIndex (.fixed rot) i)) :
    scatterBits (s.mapIndex (.fixed rot)) samples 64 = v := by
  refine BitVec.eq_of_getLsbD_eq fun p hp => ?_
  rw [Bool.eq_iff_iff, getLsbD_scatterBits_iff _ _ _ hp]
  constructor
  · rintro ⟨i, hi, rfl, hbit, -⟩
    rwa [← hpacked i hi]
  · intro hbit
    have hi := ((Config.perm rot).symm (BitVec.ofNat 6 p)).isLt
    generalize hpre : ((Config.perm rot).symm (BitVec.ofNat 6 p)).toNat = i at hi
    have hmap : s.mapIndex (.fixed rot) i = p := by
      rw [State.mapIndex, ← hpre, BitVec.ofNat_toNat, BitVec.setWidth_eq, Equiv.apply_symm_apply, BitVec.toNat_ofNat,
        Nat.mod_eq_of_lt hp]
    refine ⟨i, hi, hmap, by rw [hpacked i hi, hmap, hbit], fun j hij hj hsame => hij.ne ?_⟩
    exact mapIndex_fixed_injective s rot i j hi hj (hmap.trans hsame.symm)

/-- The eight bytes of a vector (R141). -/
def vectorBytes (v : BitVec 64) : List Byte := (List.range 8).map fun j => v.extractLsb' (8 * j) 8

theorem trialBlock_eq (s : State) (samples : BitVec 64) (rot : Rotation) :
    trialBlock Config.perm samples rot = vectorBytes (scatterBits (s.mapIndex (.fixed rot)) samples 64) := rfl

/-- The bytes of a vector packed from eight bytes (R140, R141). -/
theorem vectorBytes_packBytes {block : List Byte} (hlen : block.length = 8) :
    vectorBytes (packBytes block) = block := by
  refine List.ext_getElem (by simp [vectorBytes, hlen]) fun j _ hb => ?_
  simp [vectorBytes, extract_packBytes block j (hlen ▸ hb), hb]

/-- The trial of the rotation a payload was packed through sees the payload (R238). -/
theorem trialBlock_of_packed (s : State) (rot : Rotation) {samples : BitVec 64} {block : List Byte}
    (hlen : block.length = 8)
    (hpacked : ∀ i, i < 64 → samples.getLsbD i = (packBytes block).getLsbD (s.mapIndex (.fixed rot) i)) :
    trialBlock Config.perm samples rot = block := by
  rw [trialBlock_eq s, scatterBits_fixed s rot hpacked, vectorBytes_packBytes hlen]

/-- The trial of the rotation a payload was packed through finds its id (R238). -/
theorem trialCandidate_of_packed (s : State) (rot : Rotation) {samples : BitVec 64} {id : BitVec 16}
    (hok : (payloadField s.prim).ok = true)
    (hpacked : ∀ i, i < 64 →
      samples.getLsbD i = (packBytes (payload s.prim id)).getLsbD (s.mapIndex (.fixed rot) i)) :
    trialCandidate s.prim Config.perm samples rot = some (rot, id) := by
  rw [trialCandidate_eq, trialBlock_of_packed s rot (length_payload s.prim id) hpacked,
    rsDecode_of_isCodeword (isCodeword_payload hok id)]
  exact blockCandidate_payload s.prim id rot

/-! ### A trial on the core -/

/-- The core stands as the trials of a decode find it (R234): configured, and with the samples in ARG0 and ARG1. -/
structure TrialReady (polys : Config.PrimPolys) (samples : BitVec 64) (s : State) : Prop
    extends PayloadConfigured polys s where
  bvValid : s.bvValid = true
  bvLen : s.bvLen = 64#7
  vin : s.vin = samples

section
variable {polys : Config.PrimPolys} {samples : BitVec 64}

/-- No command but BVCFG and RSCFG takes the core out of that state (R27, R35, R36). -/
theorem TrialReady.issueChecked (h : TrialReady polys samples s) (hissue : s.issueChecked i = some t)
    (hbvcfg : ∀ n, i ≠ .bvcfg n) (hrscfg : ∀ m k r, i ≠ .rscfg m k r) : TrialReady polys samples t := by
  have hend := commandEnd_of_issueChecked hissue
  obtain ⟨hvalid, hlen⟩ := hend.keeps_bvConfig hbvcfg
  obtain ⟨-, -, -, -, harg0, harg1, -⟩ := hend.keeps_host_state
  exact ⟨h.toPayloadConfigured.issueChecked hissue hrscfg, hvalid.trans h.bvValid, hlen.trans h.bvLen,
    (congrArg₂ _ harg1 harg0).trans h.vin⟩

theorem selectorMapping_rotationSelector (rot : Rotation) :
    selectorMapping (rotationSelector rot) = some (.fixed rot) := by cases rot <;> rfl

/-- BVSETBITS puts the samples into the vector through the table of the rotation (R234, step 1). -/
theorem issueChecked_bvsetbits_rotation (h : TrialReady polys samples s) (rot : Rotation) :
    ∃ t, s.issueChecked (.bvsetbits (rotationSelector rot) 64) = some t ∧
      t.bv = scatterBits (s.mapIndex (.fixed rot)) samples 64 := by
  have hbits : s.bvBits = 64 := congrArg BitVec.toNat h.bvLen
  refine ⟨_, issueChecked_of_completed ((exec_bvsetbits (selectorMapping_rotationSelector rot) ..).trans
    (bulkChecked_of_fits h.bvValid hbits.ge ((mapOk_iff ..).2 fun i hi => ?_))), ?_⟩
  · exact (mapIndex_lt _ _ i hi).trans_eq hbits.symm
  · exact congrArg (scatterBits _ · 64) h.vin

/-- BVGETBYTES puts the vector's eight bytes at DBUF[0..7] (R234, step 1). -/
theorem issueChecked_bvgetbytes_block (h : TrialReady polys samples s) :
    ∃ t, s.issueChecked (.bvgetbytes 8 0) = some t ∧ t.memRead 0 8 = vectorBytes s.bv := by
  have hbytes : 8 * 8 ≤ s.bvLen.toNat := (congrArg BitVec.toNat h.bvLen).ge
  refine ⟨_, issueChecked_of_completed ((exec_bvgetbytes ..).trans
    (bulkChecked_of_fits h.bvValid ((le_bvBytes_iff ..).2 hbytes) (by decide))), ?_⟩
  rw [memRead_completed]
  exact memRead_memWrite_self _ 0 rfl

/-- FAIL says whether the decoder has a block to offer (R207). -/
theorem rsRes0_fail (received : List Byte) (v : RsVerdict) :
    (rsRes0 v).getLsbD 8 = (correctedBlock received v).isNone := by
  cases v with
  | clean => rfl
  | uncorrectable reason len deg => exact rsRes0_uncorrectable_fail reason len deg
  | corrected block len deg =>
    rw [rsRes0, BitVec.getLsbD_append]
    rfl

/-- What the decoder has to offer is what RSCOR leaves in DBUF (R206). -/
theorem memRead_applyVerdict (s : State) {n r : Nat} {f : GField} {block : List Byte}
    (hblock : correctedBlock (s.memRead 0 n) (rsDecode f r (s.memRead 0 n)) = some block) :
    (s.applyVerdict 0 (rsDecode f r (s.memRead 0 n))).memRead 0 n = block := by
  cases hv : rsDecode f r (s.memRead 0 n) with
  | clean =>
    rw [hv] at hblock
    rw [State.applyVerdict, memRead_setResult]
    exact Option.some.inj hblock
  | uncorrectable reason len deg =>
    rw [hv] at hblock
    cases hblock
  | corrected out len deg =>
    rw [hv] at hblock
    obtain rfl : out = block := Option.some.inj hblock
    rw [State.applyVerdict, memRead_setResult]
    exact memRead_memWrite_self s 0 ((length_of_rsDecode_corrected hv).trans (length_memRead s 0 n))

theorem applyVerdict_res0 (s : State) (a : Nat) (v : RsVerdict) : (s.applyVerdict a v).res0 = rsRes0 v := by
  cases v <;> rfl

/-- RSCOR of the block at DBUF[0..7] (R234, step 2). -/
theorem issueChecked_rscor_block (h : PayloadConfigured polys s) {received : List Byte}
    (hreceived : s.memRead 0 8 = received) :
    ∃ t, s.issueChecked (.rscor 0) = some t ∧
      (t.view .res0).getLsbD 8 = (correctedBlock received (rsDecode (payloadField polys) 4 received)).isNone ∧
      ∀ block, correctedBlock received (rsDecode (payloadField polys) 4 received) = some block →
        t.memRead 0 8 = block := by
  subst hreceived
  have hs := h.acceptCommand (encode (.rscor 0))
  have hexec := exec_rscor (s.acceptCommand (encode (.rscor 0))) 0
  rw [hs.rsM, hs.rsK, hs.rsR, hs.rsField_eq] at hexec
  refine ⟨_, issueChecked_of_completed (hexec.trans (blockChecked_of_symbols hs.rsValid (by decide)
    ((all_isElement_iff ..).2 (payloadField_symbols polys _)))), ?_, fun block hblock => ?_⟩
  · exact (congrArg (BitVec.getLsbD · 8) (applyVerdict_res0 ..)).trans (rsRes0_fail ..)
  · rw [memRead_completed]
    rw [← memRead_acceptCommand s (encode (.rscor 0))] at hblock
    exact memRead_applyVerdict _ hblock

/-- CRC16 and the check of R234, steps 3 and 4, on the block at DBUF[0..7]. -/
theorem issueChecked_crc16_block (s : State) (rot : Rotation) :
    ∃ t, s.issueChecked (.crc16 2 0) = some t ∧ candidateOf t rot = blockCandidate rot (s.memRead 0 8) := by
  refine ⟨_, issueChecked_of_completed (exec_crc16_of_fits (by decide)), ?_⟩
  have hlane (j : Nat) (hj : j < 4) := extractLsb'_laneWord s.dbufByte hj
  have hcrc := congrArg₂ (· ++ ·) (hlane 2 (by decide)) (hlane 3 (by decide))
  have hid := congrArg₂ (· ++ ·) (hlane 0 (by decide)) (hlane 1 (by decide))
  exact if_congr (Eq.congr BitVec.extractLsb'_append_eq_right hcrc)
    (congrArg (fun c => some (rot, c ^^^ whiten)) hid) rfl

/-- A trial on the core finds the candidate that the tables say, and leaves the core ready for the next (R234). -/
theorem orientationTrial_eq (h : TrialReady polys samples s) (rot : Rotation) :
    ∃ t, orientationTrial s rot = some (t, trialCandidate polys Config.perm samples rot) ∧
      TrialReady polys samples t := by
  obtain ⟨s1, hset, hbv⟩ := issueChecked_bvsetbits_rotation h rot
  have h1 := h.issueChecked hset (by simp) (by simp)
  obtain ⟨s2, hget, hread⟩ := issueChecked_bvgetbytes_block h1
  have h2 := h1.issueChecked hget (by simp) (by simp)
  have hreceived : s2.memRead 0 8 = trialBlock Config.perm samples rot := by
    rw [hread, hbv, trialBlock_eq s]
  obtain ⟨s3, hcor, hfail, hblock⟩ := issueChecked_rscor_block h2.toPayloadConfigured hreceived
  have h3 := h2.issueChecked hcor (by simp) (by simp)
  rw [trialCandidate_eq]
  simp only [orientationTrial, hset, hget, hcor, hfail]
  cases hoffer : correctedBlock (trialBlock Config.perm samples rot)
      (rsDecode (payloadField polys) 4 (trialBlock Config.perm samples rot)) with
  | none => exact ⟨s3, rfl, h3⟩
  | some block =>
    obtain ⟨s4, hcrc, hcand⟩ := issueChecked_crc16_block s3 rot
    rw [hblock block hoffer] at hcand
    refine ⟨s4, ?_, h3.issueChecked hcrc (by simp) (by simp)⟩
    simp only [Option.isNone_some, Bool.false_eq_true, if_false, hcrc, hcand, Option.bind_some]

/-- The trials record the candidates that the tables say, in their order (R234). -/
theorem orientationTrials_eq (h : TrialReady polys samples s) (rots : List Rotation) :
    ∃ t, orientationTrials s rots = some (t, rots.filterMap (trialCandidate polys Config.perm samples)) := by
  induction rots generalizing s with
  | nil => exact ⟨s, rfl⟩
  | cons rot rots ih =>
    obtain ⟨s1, htrial, h1⟩ := orientationTrial_eq h rot
    obtain ⟨s2, htrials⟩ := ih h1
    refine ⟨s2, ?_⟩
    simp only [orientationTrials, htrial, htrials]
    cases hfound : trialCandidate polys Config.perm samples rot <;> simp [hfound]

/-- The setup of a decode leaves an idle core ready for its trials (R234). -/
theorem decodeSetup_eq (s : State) (samples : BitVec 64) :
    ∃ t, decodeSetup s samples = some t ∧ TrialReady s.prim samples t := by
  have hbvcfg : s.issueChecked (.bvcfg 64) =
      some ((s.acceptCommand (encode (.bvcfg 64))).setBvConfig true 64#7).completed := issueChecked_of_completed rfl
  obtain ⟨s2, hrscfg, h2, -⟩ := issueChecked_rscfg_payload
    ((s.acceptCommand (encode (.bvcfg 64))).setBvConfig true 64#7).completed
  have hend := commandEnd_of_issueChecked hrscfg
  obtain ⟨hvalid, hlen⟩ := hend.keeps_bvConfig (by simp)
  have hidle : s2.busy = false := by
    obtain ⟨u, o, rfl⟩ := hend.exists_endCommand
    rfl
  have hvin : samples.extractLsb' 32 32 ++ samples.extractLsb' 0 32 = samples :=
    (BitVec.extractLsb'_append_extractLsb'_eq_extractLsb' (start₁ := 0) (len₁ := 32) (len₂ := 32) rfl).trans
      BitVec.extractLsb'_eq_self
  refine ⟨(s2.setArg0 (samples.extractLsb' 0 32)).setArg1 (samples.extractLsb' 32 32), ?_, ?_⟩
  · simp only [decodeSetup, hbvcfg, hrscfg]
    rw [hostWrite_of_idle hidle, hostWrite_of_idle (by simpa [State.writeLocation] using hidle)]
    rfl
  · exact ⟨⟨h2.prim, h2.rsValid, h2.rsM, h2.rsK, h2.rsR⟩, hvalid, hlen, hvin⟩

end

/-! ### The decode -/

section
variable {α : Type} {corners : Fin 4 → α}

/-- A decode succeeds when the candidate has no company (R235). -/
theorem uniqueCandidate_append_cons (before after : List Candidate) (rot : Rotation) (id : BitVec 16) :
    uniqueCandidate corners (before ++ (rot, id) :: after) =
      if before = [] ∧ after = [] then .success id rot (reorderCorners rot corners) else .failure := by
  cases before with
  | nil => cases after <;> rfl
  | cons c before => cases before <;> rfl

/-- Among the candidates of the four trials, that of one rotation is alone exactly when the others find none (R235,
R238). -/
theorem uniqueCandidate_trials {candidate : Rotation → Option Candidate} {rot : Rotation} {id : BitVec 16}
    (hown : candidate rot = some (rot, id)) :
    uniqueCandidate corners (trialOrder.filterMap candidate) =
      if trialOrder.all fun other => other == rot || (candidate other).isNone then
        .success id rot (reorderCorners rot corners)
      else .failure := by
  obtain ⟨before, after, horder⟩ := List.append_of_mem (show rot ∈ trialOrder by cases rot <;> decide)
  have hnodup : (before ++ rot :: after).Nodup := horder ▸ (by decide : trialOrder.Nodup)
  obtain ⟨hbefore, hafter⟩ := not_or.1 (mt List.mem_append.2 (List.nodup_cons.1 (List.nodup_middle.1 hnodup)).1)
  have hnone {rots : List Rotation} (hrot : rot ∉ rots) :
      rots.filterMap candidate = [] ↔ (rots.all fun other => other == rot || (candidate other).isNone) = true := by
    simp only [List.filterMap_eq_nil_iff, List.all_eq_true, Bool.or_eq_true, beq_iff_eq, Option.isNone_iff_eq_none]
    exact forall₂_congr fun other hother => (or_iff_right (ne_of_mem_of_not_mem hother hrot)).symm
  rw [horder, List.filterMap_append, List.filterMap_cons_some hown, uniqueCandidate_append_cons]
  refine if_congr ?_ rfl rfl
  rw [hnone hafter, hnone hbefore, List.all_append, List.all_cons, beq_self_eq_true, Bool.true_or, Bool.true_and,
    Bool.and_eq_true]

end

/-- Settles O60: each trial finds what the tables say, and that of the own rotation finds the payload. -/
theorem decodeReturnsItsOwnTag : Obligations.DecodeReturnsItsOwnTag := by
  intro α s id rot samples bits corners hprim _ hbits hpacked
  have hown : trialCandidate s.prim Config.perm bits rot = some (rot, id) :=
    trialCandidate_of_packed s rot (hprim 8 (by decide)) hpacked
  obtain ⟨s1, hsetup, hready⟩ := decodeSetup_eq s bits
  obtain ⟨s2, htrial, -⟩ := orientationTrial_eq hready rot
  obtain ⟨s3, htrials⟩ := orientationTrials_eq hready trialOrder
  refine ⟨⟨s1, s2, hsetup, by rw [htrial, hown]⟩, ?_⟩
  simp only [decodeTag, hbits, hsetup, htrials]
  exact uniqueCandidate_trials hown

end Sys2Proof.Machine

/-! The statements of spec/60_exceptions.md: how each command may end, what a failing command and a no-op leave
unchanged, and the interrupt. -/

namespace Sys2Proof.Machine

variable {s t : State} {i : Instr}

/-! ### The outcome of each command -/

/-- The count of a bulk command is above the capacity of the vector (R253). -/
def State.overCapacity (s : State) : Instr → Prop
  | .bvsetbits _ count | .bvgetbits _ count => s.bvBits < count.toNat
  | .bvsetbytes count _ | .bvgetbytes count _ => s.bvBytes < count.toNat
  | _ => False

/-- The state in which a failing command ends: the one before it, but for the configuration that BVCFG and RSCFG
discard (R252). -/
def State.discarded (s : State) : Instr → State
  | .bvcfg _ => s.setBvConfig false 0#7
  | .rscfg _ _ _ => s.setRsConfig false 0#4 0#8 0#8
  | _ => s

/-- The three outcomes of the table of R250, each under the condition a command may have it (R253, R257) and with what
it then leaves (R252, R253). What a completed command writes is the subject of `CommandEnd`. -/
inductive CommandOutcome (s : State) (i : Instr) : State → Prop
  | ok (u : State) : CommandOutcome s i (u.endCommand .ok)
  | noop (hcount : s.overCapacity i) : CommandOutcome s i (s.endCommand .noop)
  | fail (e : CmdError) (htabled : e ∈ allowedErrors i := by simp [allowedErrors]) :
      CommandOutcome s i ((s.discarded i).endCommand (.fail e))

/-- Every command ends with an outcome its rules allow: each case of the command's rule is one of the three. -/
theorem exec_outcome (h : exec i s = .next t) : CommandOutcome s i t := by
  cases i with
  | nop =>
    obtain rfl := execNop_cases h
    exact .ok _
  | bvcfg n =>
    obtain ⟨_, rfl⟩ | ⟨_, rfl⟩ := execBvcfg_cases h
    exacts [.ok _, .fail .cfg]
  | bvsetbit v x =>
    obtain ⟨_, rfl⟩ | ⟨_, _, rfl⟩ | ⟨_, _, rfl⟩ := execBvsetbit_cases h
    exacts [.fail .nocfg, .fail .range, .ok _]
  | bvgetbit x =>
    obtain ⟨_, rfl⟩ | ⟨_, _, rfl⟩ | ⟨_, _, rfl⟩ := execBvgetbit_cases h
    exacts [.fail .nocfg, .fail .range, .ok _]
  | bvsetbits sel c =>
    obtain ⟨_, rfl⟩ | ⟨_, _, ⟨_, rfl⟩ | ⟨_, hc, rfl⟩ | ⟨_, _, _, rfl⟩ | ⟨_, _, _, rfl⟩⟩ := execBvsetbits_cases h
    exacts [.fail .illegal, .fail .nocfg, .noop hc, .fail .range, .ok _]
  | bvgetbits sel c =>
    obtain ⟨_, rfl⟩ | ⟨_, _, ⟨_, rfl⟩ | ⟨_, hc, rfl⟩ | ⟨_, _, _, rfl⟩ | ⟨_, _, _, rfl⟩⟩ := execBvgetbits_cases h
    exacts [.fail .illegal, .fail .nocfg, .noop hc, .fail .range, .ok _]
  | bvsetbytes c a =>
    obtain ⟨_, rfl⟩ | ⟨_, hc, rfl⟩ | ⟨_, _, _, rfl⟩ | ⟨_, _, _, rfl⟩ := execBvsetbytes_cases h
    exacts [.fail .nocfg, .noop hc, .fail .range, .ok _]
  | bvgetbytes c a =>
    obtain ⟨_, rfl⟩ | ⟨_, hc, rfl⟩ | ⟨_, _, _, rfl⟩ | ⟨_, _, _, rfl⟩ := execBvgetbytes_cases h
    exacts [.fail .nocfg, .noop hc, .fail .range, .ok _]
  | crc16 l a =>
    obtain ⟨_, rfl⟩ | ⟨_, rfl⟩ := execCrc16_cases h
    exacts [.fail .range, .ok _]
  | crc16w l d a =>
    obtain ⟨_, rfl⟩ | ⟨_, rfl⟩ := execCrc16w_cases h
    exacts [.fail .range, .ok _]
  | gfmul m a b =>
    obtain ⟨_, rfl⟩ | ⟨_, rfl⟩ := execGfmul_cases h
    exacts [.fail .operand, .ok _]
  | gfdiv m a b =>
    obtain ⟨_, rfl⟩ | ⟨_, _, rfl⟩ | ⟨_, _, rfl⟩ := execGfdiv_cases h
    exacts [.fail .operand, .fail .zero, .ok _]
  | gfexp m e =>
    obtain ⟨_, rfl⟩ | ⟨_, rfl⟩ := execGfexp_cases h
    exacts [.fail .operand, .ok _]
  | gflog m x =>
    obtain ⟨_, rfl⟩ | ⟨_, _, rfl⟩ | ⟨_, _, rfl⟩ := execGflog_cases h
    exacts [.fail .operand, .fail .zero, .ok _]
  | rscfg m k r =>
    obtain ⟨_, rfl⟩ | ⟨_, rfl⟩ := execRscfg_cases h
    exacts [.ok _, .fail .cfg]
  | rsenc d a =>
    obtain ⟨_, rfl⟩ | ⟨_, _, rfl⟩ | ⟨_, _, _, rfl⟩ | ⟨_, _, _, rfl⟩ := execRsenc_cases h
    exacts [.fail .nocfg, .fail .range, .fail .operand, .ok _]
  | rscor a =>
    obtain ⟨_, rfl⟩ | ⟨_, _, rfl⟩ | ⟨_, _, _, rfl⟩ | ⟨_, _, _, rfl⟩ := execRscor_cases h
    exacts [.fail .nocfg, .fail .range, .fail .operand, .ok _]

namespace CommandOutcome

/-- An error code in STATUS names the failure: it is tabled, and nothing but the configuration is discarded. -/
theorem of_errcode {e : CmdError} (h : CommandOutcome s i t) (hcode : t.errcode = some e) :
    e ∈ allowedErrors i ∧ t = (s.discarded i).endCommand (.fail e) := by
  cases h with
  | ok u => cases hcode
  | noop hcount => cases hcode
  | fail e' htabled =>
    cases hcode
    exact ⟨htabled, rfl⟩

/-- NOOP in STATUS tells of a count above capacity, and of a command that changed nothing else. -/
theorem of_noop (h : CommandOutcome s i t) (hnoop : t.noop = true) : s.overCapacity i ∧ t = s.endCommand .noop := by
  cases h with
  | ok u => cases hnoop
  | noop hcount => exact ⟨hcount, rfl⟩
  | fail e htabled => cases hnoop

end CommandOutcome

/-! ### Failures -/

/-- Settles O43: the error codes are those of the outcome `fail`. -/
theorem errorsAreThoseTabled : Obligations.ErrorsAreThoseTabled :=
  fun _ _ _ _ hexec hcode => ((exec_outcome hexec).of_errcode hcode).1

/-- Settles O42: the outcome `fail` of the command decoded, or ILLEGAL for a word that names none. -/
theorem failingCommandChangesOnlyStatus : Obligations.FailingCommandChangesOnlyStatus := by
  intro s t e hturn hstep hcode
  rw [step, if_pos hturn] at hstep
  obtain ⟨i, hdec, hexec⟩ | ⟨_, hdec, rfl⟩ := engineStep_cases hstep
  · obtain ⟨_, rfl⟩ := (exec_outcome hexec).of_errcode hcode
    rw [hdec]
    cases i <;> rfl
  · cases hcode
    rw [hdec]
    rfl

/-! ### Counts above capacity -/

theorem bulkChecked_of_gt {capacity count : Nat} {fits : Bool} {u : State} (hvalid : s.bvValid = true)
    (hcount : capacity < count) : bulkChecked s capacity count fits u = .next s.nooped := by
  rw [bulkChecked, hvalid, if_pos hcount]
  rfl

/-- A selector that is not reserved names a mapping (R97). -/
theorem exists_selectorMapping {sel : Selector} (hsel : sel.isReserved = false) :
    ∃ mp, selectorMapping sel = some mp := by
  cases sel with
  | reserved6 => cases hsel
  | reserved7 => cases hsel
  | _ => exact ⟨_, rfl⟩

/-- The commands that have a capacity are the four bulk commands (R253). -/
theorem overCapacity_bulk (h : s.overCapacity i) :
    (∃ sel count, (i = .bvsetbits sel count ∨ i = .bvgetbits sel count) ∧ s.bvLen.toNat < count.toNat) ∨
      ∃ count addr, (i = .bvsetbytes count addr ∨ i = .bvgetbytes count addr) ∧ s.bvLen.toNat / 8 < count.toNat := by
  cases i with
  | bvsetbits sel c => exact .inl ⟨sel, c, .inl rfl, h⟩
  | bvgetbits sel c => exact .inl ⟨sel, c, .inr rfl, h⟩
  | bvsetbytes c a => exact .inr ⟨c, a, .inl rfl, h⟩
  | bvgetbytes c a => exact .inr ⟨c, a, .inr rfl, h⟩
  | _ => exact h.elim

/-- Settles O19: the shared checks of the bulk commands one way, the outcome `noop` the other. -/
theorem countAboveCapacityIsTheOnlyNoop : Obligations.CountAboveCapacityIsTheOnlyNoop := by
  refine ⟨fun s sel count addr hvalid => ⟨fun hsel hcount => ?bits, fun hcount => ?bytes⟩,
    fun s t i hexec hnoop => ?only⟩
  case bits =>
    obtain ⟨mp, hmap⟩ := exists_selectorMapping hsel
    exact ⟨(exec_bvsetbits hmap ..).trans (bulkChecked_of_gt hvalid hcount),
      (exec_bvgetbits hmap ..).trans (bulkChecked_of_gt hvalid hcount)⟩
  case bytes =>
    exact ⟨(exec_bvsetbytes ..).trans (bulkChecked_of_gt hvalid hcount),
      (exec_bvgetbytes ..).trans (bulkChecked_of_gt hvalid hcount)⟩
  case only =>
    obtain ⟨hover, hend⟩ := (exec_outcome hexec).of_noop hnoop
    exact ⟨hend, overCapacity_bulk hover⟩

/-! ### The interrupt -/

/-- The engine writes no IE (R24). -/
theorem engineStep_keeps_ie (h : engineStep s = .next t) : t.ie = s.ie := by
  obtain ⟨i, _, hexec⟩ | ⟨_, _, rfl⟩ := engineStep_cases h
  · obtain ⟨_, hie, _⟩ := (exec_commandEnd hexec).keeps_host_state
    exact hie
  · rfl

/-- At the end of a command the interrupt takes the value of IE (R258). -/
theorem engineStep_irq (h : engineStep s = .next t) : t.irq = s.ie := by
  have hdone : t.done = true := by
    obtain ⟨u, o, rfl⟩ := engineStep_exists_endCommand h
    exact State.endCommand_done u o
  rw [State.irq, engineStep_keeps_ie h, hdone, Bool.and_true]

@[simp] theorem State.setInputs_irq (s : State) (inputs : List HostAction) : (s.setInputs inputs).irq = s.irq := rfl

@[simp] theorem State.tick_irq (s : State) : s.tick.irq = s.irq := rfl

@[simp] theorem State.setHostData_irq (s : State) (data : Word) : (s.setHostData data).irq = s.irq := rfl

@[simp] theorem State.powerOn_irq (s : State) : s.powerOn.irq = false := rfl

/-- A host read leaves the interrupt as it is (R67). -/
@[simp] theorem State.hostRead_irq (s : State) (loc : Location) : (s.hostRead loc).irq = s.irq := by
  obtain ⟨_, _, h⟩ | ⟨_, h⟩ := hostRead_cases s loc <;> rw [h] <;> rfl

/-- An acknowledge in STATUS lowers the interrupt (R258, R259). -/
@[simp] theorem State.writeStatus_irq (s : State) (data : Word) :
    (s.writeStatus data).irq = (s.irq && !data.getLsbD 1) := (Bool.and_assoc ..).symm

/-- A CMD write lowers the interrupt when it is accepted, and not when it is dropped (R120, R121, R258). -/
theorem hostWrite_cmd_irq (s : State) (data : Word) : (s.hostWrite .cmd data).irq = (s.irq && s.busy) := by
  cases hbusy : s.busy
  · rw [hostWrite_of_idle hbusy, Bool.and_false]
    exact Bool.and_false _
  · rw [hostWrite_of_busy hbusy rfl, Bool.and_true]
    rfl

/-- A CTRL write sets IE, under which DONE shows, and with SRST it clears DONE (R258, R259). -/
@[simp] theorem State.writeCtrl_irq (s : State) (data : Word) :
    (s.writeCtrl data).irq = (!data.getLsbD 1 && (data.getLsbD 0 && s.done)) := by
  cases hsrst : data.getLsbD 1
  · rw [writeCtrl_of_not_srst hsrst]
    rfl
  · rw [writeCtrl_of_srst hsrst, State.irq, softReset_done, Bool.and_false]
    rfl

/-- No other write changes the interrupt (R258). -/
theorem hostWrite_irq_of_ne {loc : Location} (hstatus : loc ≠ .status) (hcmd : loc ≠ .cmd) (hctrl : loc ≠ .ctrl)
    (s : State) (data : Word) : (s.hostWrite loc data).irq = s.irq := by
  obtain ⟨_, _, hw⟩ | ⟨_, hw⟩ := hostWrite_cases s loc data <;> rw [hw]
  · rfl
  · cases loc with
    | status => exact absurd rfl hstatus
    | cmd => exact absurd rfl hcmd
    | ctrl => exact absurd rfl hctrl
    | _ => rfl

/-- The writes that lower the interrupt (R258). -/
theorem hostWrite_lowers_irq {loc : Location} {data : Word} (hbefore : s.irq = true)
    (hafter : (s.hostWrite loc data).irq = false) :
    (loc = .status ∧ data.getLsbD 1 = true) ∨ (loc = .cmd ∧ s.busy = false) ∨
      (loc = .ctrl ∧ (data.getLsbD 1 = true ∨ data.getLsbD 0 = false)) := by
  cases loc with
  | status => exact .inl ⟨rfl, by simpa [hbefore] using hafter⟩
  | cmd => exact .inr (.inl ⟨rfl, by simpa [hostWrite_cmd_irq, hbefore] using hafter⟩)
  | ctrl =>
    obtain ⟨_, hdone⟩ := Bool.and_eq_true_iff.1 hbefore
    rw [hostWrite_ctrl, State.writeCtrl_irq, hdone, Bool.and_true] at hafter
    exact .inr (.inr ⟨rfl, (Bool.and_eq_false_iff.1 hafter).imp_left (Bool.not_eq_false' _).mp⟩)
  | _ =>
    rw [hostWrite_irq_of_ne (by simp) (by simp) (by simp), hbefore] at hafter
    cases hafter

/-- The one write that raises the interrupt (R259). -/
theorem hostWrite_raises_irq {loc : Location} {data : Word} (hbefore : s.irq = false)
    (hafter : (s.hostWrite loc data).irq = true) :
    loc = .ctrl ∧ data.getLsbD 1 = false ∧ data.getLsbD 0 = true ∧ s.done = true := by
  cases loc with
  | ctrl => exact ⟨rfl, by simpa using hafter⟩
  | status => simp [hbefore] at hafter
  | cmd => simp [hostWrite_cmd_irq, hbefore] at hafter
  | _ =>
    rw [hostWrite_irq_of_ne (by simp) (by simp) (by simp), hbefore] at hafter
    cases hafter

/-- CTRL, STATUS and CMD each stand at one offset (R22). -/
theorem locate_controls (offset : Nat) :
    (locate offset = .ctrl → offset = 0x004) ∧ (locate offset = .status → offset = 0x008) ∧
      (locate offset = .cmd → offset = 0x00C) := by
  obtain hlow | ⟨a, ha, rfl⟩ | ⟨x, hx, rfl⟩ | hhigh := offset_cases offset
  · by_cases hreg : offset < 0x030
    · have hregisters : ∀ o < 0x030, (locate o = .ctrl → o = 0x004) ∧ (locate o = .status → o = 0x008) ∧
          (locate o = .cmd → o = 0x00C) := by decide
      exact hregisters offset hreg
    · simp [locate_of_reserved_low (by omega) hlow]
  · simp [locate_dbuf ha]
  · simp [locate_mapram hx]
  · simp [locate_of_ge hhigh]

/-- What the host's step can do to the interrupt: nothing, a power-on reset, or what its write does. -/
theorem hostStep_irq (h : s.hostStep = .next t) :
    t.irq = s.irq ∨ (∃ rest, s.inputs = .powerOnReset :: rest ∧ t.irq = false) ∨
    ∃ offset data rest, s.inputs = .write .word offset data :: rest ∧
      t.irq = (((s.setInputs rest).tick).hostWrite (locate offset.toNat) data).irq := by
  obtain ⟨_, rfl⟩ | ⟨_, _, _, _, _, rfl⟩ | ⟨width, offset, data, rest, hin, haccess, rfl⟩ | ⟨_, _, rfl⟩ |
    ⟨rest, hin, rfl⟩ := hostStep_cases h
  · exact .inl rfl
  · exact .inl (by simp)
  · obtain ⟨_, rfl, _⟩ := (accessProblem_eq_none_iff ..).1 haccess
    exact .inr (.inr ⟨offset, data, rest, hin, rfl⟩)
  · exact .inl (by simp [apply_ite State.irq])
  · exact .inr (.inl ⟨rest, hin, rfl⟩)

/-- The host actions that lower the interrupt (R258). -/
theorem hostStep_lowers_irq (h : s.hostStep = .next t) (hbefore : s.irq = true) (hafter : t.irq = false) :
    (∃ rest, s.inputs = .powerOnReset :: rest) ∨
    ∃ offset data rest, s.inputs = .write .word offset data :: rest ∧
      ((offset = 0x008#32 ∧ data.getLsbD 1 = true) ∨ (offset = 0x00C#32 ∧ s.busy = false) ∨
        (offset = 0x004#32 ∧ (data.getLsbD 1 = true ∨ data.getLsbD 0 = false))) := by
  obtain hkept | ⟨rest, hin, _⟩ | ⟨offset, data, rest, hin, hwrite⟩ := hostStep_irq h
  · rw [hkept, hbefore] at hafter
    cases hafter
  · exact .inl ⟨rest, hin⟩
  · obtain ⟨hctrl, hstatus, hcmd⟩ := locate_controls offset.toNat
    refine .inr ⟨offset, data, rest, hin, ?_⟩
    exact (hostWrite_lowers_irq (s := (s.setInputs rest).tick) hbefore (hwrite ▸ hafter)).imp
      (And.imp_left fun hloc => BitVec.eq_of_toNat_eq (hstatus hloc))
      (Or.imp (And.imp_left fun hloc => BitVec.eq_of_toNat_eq (hcmd hloc))
        (And.imp_left fun hloc => BitVec.eq_of_toNat_eq (hctrl hloc)))

/-- The one host action that raises the interrupt (R259). -/
theorem hostStep_raises_irq (h : s.hostStep = .next t) (hbefore : s.irq = false) (hafter : t.irq = true) :
    ∃ data rest, s.inputs = .write .word 0x004#32 data :: rest ∧ data.getLsbD 1 = false ∧ data.getLsbD 0 = true ∧
      s.done = true := by
  obtain hkept | ⟨_, _, hreset⟩ | ⟨offset, data, rest, hin, hwrite⟩ := hostStep_irq h
  · rw [hkept, hbefore] at hafter
    cases hafter
  · rw [hreset] at hafter
    cases hafter
  · obtain ⟨hloc, hraise⟩ :=
      hostWrite_raises_irq (s := (s.setInputs rest).tick) hbefore (hwrite ▸ hafter)
    obtain rfl : offset = 0x004#32 := BitVec.eq_of_toNat_eq ((locate_controls _).1 hloc)
    exact ⟨data, rest, hin, hraise⟩

/-- Settles O52: the engine gives the interrupt IE's value, and so never lowers it; the rest are the host's steps. -/
theorem interruptRisesAndFallsAsStated : Obligations.InterruptRisesAndFallsAsStated := by
  refine ⟨fun _ => rfl, fun s t hturn hstep => ?ends, fun s t hstep hbefore hafter => ?falls,
    fun s t hstep hbefore hafter => ?rises⟩
  case ends =>
    rw [step, if_pos hturn] at hstep
    exact engineStep_irq hstep
  case falls =>
    obtain ⟨_, hengine⟩ | ⟨_, hhost⟩ := step_cases hstep
    · obtain ⟨hie, _⟩ := Bool.and_eq_true_iff.1 hbefore
      rw [engineStep_irq hengine, hie] at hafter
      cases hafter
    · exact hostStep_lowers_irq hhost hbefore hafter
  case rises =>
    obtain ⟨hturn, _⟩ | ⟨_, hhost⟩ := step_cases hstep
    · exact .inl hturn
    · exact .inr (hostStep_raises_irq hhost hbefore hafter)

end Sys2Proof.Machine

/-! The statement of spec/70_reset_and_hazards.md on abandonment: which bytes of DBUF a soft reset loses while a command
is in flight (R283). -/

namespace Sys2Proof.Machine

variable {s : State} {i : Instr} {a : Nat}

/-! ### The bytes an abandoned command loses -/

/-- A write of drawn bytes: each address of the range holds its own draw, every other byte is kept. -/
theorem dbufByte_memWrite_map_range (s : State) (f : Nat → Byte) (start n a : Nat) :
    (s.memWrite start ((List.range n).map fun j => f (start + j))).dbufByte a =
      if start ≤ a ∧ a < start + n then f a else s.dbufByte a := by
  split
  case isTrue hin =>
    obtain ⟨j, rfl⟩ := Nat.exists_eq_add_of_le hin.1
    have hj : j < n := by omega
    rw [dbufByte_memWrite_add s start (by simpa using hj), List.getElem_map, List.getElem_range]
  case isFalse hout =>
    exact dbufByte_memWrite_of_outside s (by rw [List.length_map, List.length_range]; omega)

/-- Abandoning draws the bytes of the clipped range and keeps the others. -/
theorem dbufByte_abandon (s : State) (a : Nat) :
    s.abandon.dbufByte a =
      if s.abandonRange.1 ≤ a ∧ a < s.abandonRange.1 + s.abandonRange.2 then Config.abandonedByte s.draws a
      else s.dbufByte a :=
  dbufByte_memWrite_map_range s (Config.abandonedByte s.draws) _ _ a

/-- Inside DBUF the clipping of the range takes no byte away. -/
theorem dbufByte_abandon_of_command (hdecode : decode s.cmdl = .ok i) (ha : a < 256) :
    s.abandon.dbufByte a =
      if (s.writableRange i).1 ≤ a ∧ a < (s.writableRange i).1 + (s.writableRange i).2 then
        Config.abandonedByte s.draws a
      else s.dbufByte a := by
  have hrange : s.abandonRange = ((s.writableRange i).1, min (s.writableRange i).2 (256 - (s.writableRange i).1)) := by
    rw [State.abandonRange, hdecode]
  have hclip : a < (s.writableRange i).1 + min (s.writableRange i).2 (256 - (s.writableRange i).1) ↔
      a < (s.writableRange i).1 + (s.writableRange i).2 := by omega
  rw [dbufByte_abandon, hrange]
  exact if_congr (and_congr_right' hclip) rfl rfl

/-- A word that names no command loses no byte. -/
theorem dbufByte_abandon_of_error {e : DecodeError} (hdecode : decode s.cmdl = .error e) (a : Nat) :
    s.abandon.dbufByte a = s.dbufByte a := by
  have hrange : s.abandonRange = (0, 0) := by rw [State.abandonRange, hdecode]
  rw [dbufByte_abandon, hrange, if_neg (by omega)]

/-- A soft reset of a busy core leaves DBUF as abandoning the command leaves it. -/
theorem dbufByte_softReset_of_busy (hbusy : s.busy = true) (ie : Bool) (a : Nat) :
    (s.softReset ie).dbufByte a = s.abandon.dbufByte a := by
  rw [State.softReset, if_pos hbusy]
  rfl

@[simp] theorem softReset_mapram (s : State) (ie : Bool) : (s.softReset ie).mapram = s.mapram := by
  unfold State.softReset
  split <;> rfl

/-- Settles O55: the CTRL write is the soft reset, and DBUF after it is what abandoning the command in flight leaves. -/
theorem softResetAbandonsTheCommand : Obligations.SoftResetAbandonsTheCommand := by
  intro s data rest hturn hbusy hin hsrst
  have hstep : step s = .next (((s.setInputs rest).tick).softReset (data.getLsbD 0)) := by
    rw [step_eq_writeCtrl hturn hin, writeCtrl_of_srst hsrst]
  refine ⟨_, hstep, softReset_busy .., softReset_done .., softReset_mapram .., softReset_eq .., fun a ha => ?_⟩
  have habandon : (((s.setInputs rest).tick).softReset (data.getLsbD 0)).dbufByte a = s.abandon.dbufByte a :=
    dbufByte_softReset_of_busy (s := (s.setInputs rest).tick) hbusy _ a
  rw [habandon]
  cases hdecode : decode s.cmdl with
  | error e => exact dbufByte_abandon_of_error hdecode a
  | ok i =>
    rw [dbufByte_abandon_of_command hdecode ha]
    cases i with
    | crc16w | bvgetbytes | rsenc | rscor => exact (if_congr decide_eq_true_iff rfl rfl).symm
    | _ => exact if_neg (by simp [State.writableRange])

end Sys2Proof.Machine
